-- ==== Sys2Proof/Word.lean ====
section
/-! DEFINITION. The bit strings of the machine (00_scope.md R3, R4, R11; 20_memory.md R93). -/
namespace Sys2Proof

/-- A byte: 8 bits (20_memory.md R93). -/
abbrev Byte := BitVec 8
/-- A half word: 16 bits (20_memory.md R93). -/
abbrev Half := BitVec 16
/-- A word: 32 bits; every GPR, address and special register is one (00_scope.md R3). -/
abbrev Word := BitVec 32
/-- A double word: 64 bits (20_memory.md R93). -/
abbrev Dword := BitVec 64
/-- A quad word: 128 bits, the width of a vector register (00_scope.md R4, 10_state.md R41). -/
abbrev Quad := BitVec 128

end Sys2Proof
end

