-- ==== Sys2Proof/Syntax.lean ====
section
/-! DEFINITION. The instructions of spec/opcode_table.json, one constructor a row (30_encoding.md R140 to R156, R164).
Operands stand in the order of their fields in the instruction word; the assembler writes vmaddfp and vnmsubfp with vC before
vB (R153). The three base words the spec adds (R483, R484, R532) are no rows of the table: see Decode.lean. -/
namespace Sys2Proof

/-- A vector register number, 0 to 31 (30_encoding.md R142). -/
abbrev VReg := Fin 32
/-- A general-purpose register number, 0 to 31 (30_encoding.md R142). -/
abbrev GReg := Fin 32
/-- A data-stream tag, 0 to 3 (30_encoding.md R151). -/
abbrev StreamId := Fin 4

/-- One constructor for each of the 162 rows of the opcode table (30_encoding.md R153 to R156). -/
inductive Instr where
  /- Loads and stores, lvsl, lvsr (40_load_store.md). -/
  /-- R187. -/
  | lvsl (vD : VReg) (rA rB : GReg)
  /-- R182. -/
  | lvebx (vD : VReg) (rA rB : GReg)
  /-- R188. -/
  | lvsr (vD : VReg) (rA rB : GReg)
  /-- R183. -/
  | lvehx (vD : VReg) (rA rB : GReg)
  /-- R184. -/
  | lvewx (vD : VReg) (rA rB : GReg)
  /-- R185. -/
  | lvx (vD : VReg) (rA rB : GReg)
  /-- R189. -/
  | stvebx (vS : VReg) (rA rB : GReg)
  /-- R190. -/
  | stvehx (vS : VReg) (rA rB : GReg)
  /-- R191. -/
  | stvewx (vS : VReg) (rA rB : GReg)
  /-- R192. -/
  | stvx (vS : VReg) (rA rB : GReg)
  /-- R186. -/
  | lvxl (vD : VReg) (rA rB : GReg)
  /-- R193. -/
  | stvxl (vS : VReg) (rA rB : GReg)
  /- Integer arithmetic (41_int_arith.md). -/
  /-- R254. -/
  | vmhaddshs (vD vA vB vC : VReg)
  /-- R255. -/
  | vmhraddshs (vD vA vB vC : VReg)
  /-- R256. -/
  | vmladduhm (vD vA vB vC : VReg)
  /-- R257. -/
  | vmsumubm (vD vA vB vC : VReg)
  /-- R258. -/
  | vmsummbm (vD vA vB vC : VReg)
  /-- R259. -/
  | vmsumuhm (vD vA vB vC : VReg)
  /-- R260. -/
  | vmsumuhs (vD vA vB vC : VReg)
  /-- R261. -/
  | vmsumshm (vD vA vB vC : VReg)
  /-- R262. -/
  | vmsumshs (vD vA vB vC : VReg)
  /-- R227. -/
  | vaddubm (vD vA vB : VReg)
  /-- R274. -/
  | vmaxub (vD vA vB : VReg)
  /-- R250. -/
  | vmuloub (vD vA vB : VReg)
  /-- R228. -/
  | vadduhm (vD vA vB : VReg)
  /-- R275. -/
  | vmaxuh (vD vA vB : VReg)
  /-- R251. -/
  | vmulouh (vD vA vB : VReg)
  /-- R229. -/
  | vadduwm (vD vA vB : VReg)
  /-- R276. -/
  | vmaxuw (vD vA vB : VReg)
  /-- R277. -/
  | vmaxsb (vD vA vB : VReg)
  /-- R252. -/
  | vmulosb (vD vA vB : VReg)
  /-- R278. -/
  | vmaxsh (vD vA vB : VReg)
  /-- R253. -/
  | vmulosh (vD vA vB : VReg)
  /-- R226. -/
  | vaddcuw (vD vA vB : VReg)
  /-- R279. -/
  | vmaxsw (vD vA vB : VReg)
  /-- R230. -/
  | vaddubs (vD vA vB : VReg)
  /-- R280. -/
  | vminub (vD vA vB : VReg)
  /-- R246. -/
  | vmuleub (vD vA vB : VReg)
  /-- R231. -/
  | vadduhs (vD vA vB : VReg)
  /-- R281. -/
  | vminuh (vD vA vB : VReg)
  /-- R247. -/
  | vmuleuh (vD vA vB : VReg)
  /-- R232. -/
  | vadduws (vD vA vB : VReg)
  /-- R282. -/
  | vminuw (vD vA vB : VReg)
  /-- R233. -/
  | vaddsbs (vD vA vB : VReg)
  /-- R283. -/
  | vminsb (vD vA vB : VReg)
  /-- R248. -/
  | vmulesb (vD vA vB : VReg)
  /-- R234. -/
  | vaddshs (vD vA vB : VReg)
  /-- R284. -/
  | vminsh (vD vA vB : VReg)
  /-- R249. -/
  | vmulesh (vD vA vB : VReg)
  /-- R235. -/
  | vaddsws (vD vA vB : VReg)
  /-- R285. -/
  | vminsw (vD vA vB : VReg)
  /-- R237. -/
  | vsububm (vD vA vB : VReg)
  /-- R268. -/
  | vavgub (vD vA vB : VReg)
  /-- R238. -/
  | vsubuhm (vD vA vB : VReg)
  /-- R269. -/
  | vavguh (vD vA vB : VReg)
  /-- R239. -/
  | vsubuwm (vD vA vB : VReg)
  /-- R270. -/
  | vavguw (vD vA vB : VReg)
  /-- R271. -/
  | vavgsb (vD vA vB : VReg)
  /-- R272. -/
  | vavgsh (vD vA vB : VReg)
  /-- R236. -/
  | vsubcuw (vD vA vB : VReg)
  /-- R273. -/
  | vavgsw (vD vA vB : VReg)
  /-- R240. -/
  | vsububs (vD vA vB : VReg)
  /-- R265. -/
  | vsum4ubs (vD vA vB : VReg)
  /-- R241. -/
  | vsubuhs (vD vA vB : VReg)
  /-- R267. -/
  | vsum4shs (vD vA vB : VReg)
  /-- R242. -/
  | vsubuws (vD vA vB : VReg)
  /-- R264. -/
  | vsum2sws (vD vA vB : VReg)
  /-- R243. -/
  | vsubsbs (vD vA vB : VReg)
  /-- R266. -/
  | vsum4sbs (vD vA vB : VReg)
  /-- R244. -/
  | vsubshs (vD vA vB : VReg)
  /-- R245. -/
  | vsubsws (vD vA vB : VReg)
  /-- R263. -/
  | vsumsws (vD vA vB : VReg)
  /- Integer compare, logical, rotate, shift (42_int_cmp_logic_shift.md). -/
  /-- R319. -/
  | vrlb (vD vA vB : VReg)
  /-- R320. -/
  | vrlh (vD vA vB : VReg)
  /-- R321. -/
  | vrlw (vD vA vB : VReg)
  /-- R322. -/
  | vslb (vD vA vB : VReg)
  /-- R323. -/
  | vslh (vD vA vB : VReg)
  /-- R324. -/
  | vslw (vD vA vB : VReg)
  /-- R325. -/
  | vsrb (vD vA vB : VReg)
  /-- R326. -/
  | vsrh (vD vA vB : VReg)
  /-- R327. -/
  | vsrw (vD vA vB : VReg)
  /-- R328. -/
  | vsrab (vD vA vB : VReg)
  /-- R329. -/
  | vsrah (vD vA vB : VReg)
  /-- R330. -/
  | vsraw (vD vA vB : VReg)
  /-- R313. -/
  | vand (vD vA vB : VReg)
  /-- R314. -/
  | vandc (vD vA vB : VReg)
  /-- R316. -/
  | vor (vD vA vB : VReg)
  /-- R317. -/
  | vxor (vD vA vB : VReg)
  /-- R315. -/
  | vnor (vD vA vB : VReg)
  /-- R303. -/
  | vcmpequb (vD vA vB : VReg) (rc : Bool)
  /-- R304. -/
  | vcmpequh (vD vA vB : VReg) (rc : Bool)
  /-- R305. -/
  | vcmpequw (vD vA vB : VReg) (rc : Bool)
  /-- R306. -/
  | vcmpgtub (vD vA vB : VReg) (rc : Bool)
  /-- R307. -/
  | vcmpgtuh (vD vA vB : VReg) (rc : Bool)
  /-- R308. -/
  | vcmpgtuw (vD vA vB : VReg) (rc : Bool)
  /-- R309. -/
  | vcmpgtsb (vD vA vB : VReg) (rc : Bool)
  /-- R310. -/
  | vcmpgtsh (vD vA vB : VReg) (rc : Bool)
  /-- R311. -/
  | vcmpgtsw (vD vA vB : VReg) (rc : Bool)
  /- Floating point (43_float.md). -/
  /-- R372. -/
  | vmaddfp (vD vA vB vC : VReg)
  /-- R373. -/
  | vnmsubfp (vD vA vB vC : VReg)
  /-- R370. -/
  | vaddfp (vD vA vB : VReg)
  /-- R371. -/
  | vsubfp (vD vA vB : VReg)
  /-- R381. -/
  | vrefp (vD vB : VReg)
  /-- R382. -/
  | vrsqrtefp (vD vB : VReg)
  /-- R383. -/
  | vexptefp (vD vB : VReg)
  /-- R384. -/
  | vlogefp (vD vB : VReg)
  /-- R385. -/
  | vrfin (vD vB : VReg)
  /-- R386. -/
  | vrfiz (vD vB : VReg)
  /-- R387. -/
  | vrfip (vD vB : VReg)
  /-- R388. -/
  | vrfim (vD vB : VReg)
  /-- R389. -/
  | vcfux (vD : VReg) (uimm : BitVec 5) (vB : VReg)
  /-- R390. -/
  | vcfsx (vD : VReg) (uimm : BitVec 5) (vB : VReg)
  /-- R391. -/
  | vctuxs (vD : VReg) (uimm : BitVec 5) (vB : VReg)
  /-- R392. -/
  | vctsxs (vD : VReg) (uimm : BitVec 5) (vB : VReg)
  /-- R374. -/
  | vmaxfp (vD vA vB : VReg)
  /-- R375. -/
  | vminfp (vD vA vB : VReg)
  /-- R376. -/
  | vcmpeqfp (vD vA vB : VReg) (rc : Bool)
  /-- R377. -/
  | vcmpgefp (vD vA vB : VReg) (rc : Bool)
  /-- R379. -/
  | vcmpgtfp (vD vA vB : VReg) (rc : Bool)
  /-- R378. -/
  | vcmpbfp (vD vA vB : VReg) (rc : Bool)
  /- Pack, unpack, merge, splat, permute, select, long shifts (44_permute.md). -/
  /-- R452. -/
  | vsel (vD vA vB vC : VReg)
  /-- R451. -/
  | vperm (vD vA vB vC : VReg)
  /-- R458. -/
  | vsldoi (vD vA vB : VReg) (shb : Fin 16)
  /-- R438. -/
  | vmrghb (vD vA vB : VReg)
  /-- R422. -/
  | vpkuhum (vD vA vB : VReg)
  /-- R439. -/
  | vmrghh (vD vA vB : VReg)
  /-- R426. -/
  | vpkuwum (vD vA vB : VReg)
  /-- R440. -/
  | vmrghw (vD vA vB : VReg)
  /-- R423. -/
  | vpkuhus (vD vA vB : VReg)
  /-- R427. -/
  | vpkuwus (vD vA vB : VReg)
  /-- R441. -/
  | vmrglb (vD vA vB : VReg)
  /-- R424. -/
  | vpkshus (vD vA vB : VReg)
  /-- R442. -/
  | vmrglh (vD vA vB : VReg)
  /-- R428. -/
  | vpkswus (vD vA vB : VReg)
  /-- R443. -/
  | vmrglw (vD vA vB : VReg)
  /-- R425. -/
  | vpkshss (vD vA vB : VReg)
  /-- R454. -/
  | vsl (vD vA vB : VReg)
  /-- R429. -/
  | vpkswss (vD vA vB : VReg)
  /-- R445. -/
  | vspltb (vD : VReg) (uimm : BitVec 5) (vB : VReg)
  /-- R431. -/
  | vupkhsb (vD vB : VReg)
  /-- R446. -/
  | vsplth (vD : VReg) (uimm : BitVec 5) (vB : VReg)
  /-- R432. -/
  | vupkhsh (vD vB : VReg)
  /-- R447. -/
  | vspltw (vD : VReg) (uimm : BitVec 5) (vB : VReg)
  /-- R433. -/
  | vupklsb (vD vB : VReg)
  /-- R455. -/
  | vsr (vD vA vB : VReg)
  /-- R434. -/
  | vupklsh (vD vB : VReg)
  /-- R448. -/
  | vspltisb (vD : VReg) (simm : BitVec 5)
  /-- R430. -/
  | vpkpx (vD vA vB : VReg)
  /-- R449. -/
  | vspltish (vD : VReg) (simm : BitVec 5)
  /-- R435. -/
  | vupkhpx (vD vB : VReg)
  /-- R450. -/
  | vspltisw (vD : VReg) (simm : BitVec 5)
  /-- R436. -/
  | vupklpx (vD vB : VReg)
  /-- R456. -/
  | vslo (vD vA vB : VReg)
  /-- R457. -/
  | vsro (vD vA vB : VReg)
  /- VSCR moves (45_vscr_control.md). -/
  /-- R480. -/
  | mfvscr (vD : VReg)
  /-- R481. -/
  | mtvscr (vB : VReg)
  /- Data streams (46_data_stream.md). -/
  /-- R502. -/
  | dst (strm : StreamId) (rA rB : GReg)
  /-- R503. -/
  | dstt (strm : StreamId) (rA rB : GReg)
  /-- R504. -/
  | dstst (strm : StreamId) (rA rB : GReg)
  /-- R505. -/
  | dststt (strm : StreamId) (rA rB : GReg)
  /-- R506. -/
  | dss (strm : StreamId)
  /-- R507. -/
  | dssall
  deriving DecidableEq, Repr

end Sys2Proof
end

