-- ==== Sys2Proof/Decode.lean ====
section
/-! DEFINITION. Reading an instruction from its bytes, and writing it (30_encoding.md R140 to R159). All fields are pulled out of
the instruction word here, once. A word is a natural number below 2^32 whose bit 0 is the least significant; the spec's bit b is
bit 31-b of it (00_scope.md R10, 30_encoding.md R140). -/
namespace Sys2Proof

/-- The three base PowerPC instructions to which the spec gives a meaning; they are no rows of the opcode table. -/
inductive BaseInstr where
  /-- `mfspr rD,256`: move from VRSAVE (45_vscr_control.md R483). -/
  | mfsprVrsave (rD : GReg)
  /-- `mtspr 256,rS`: move to VRSAVE (45_vscr_control.md R484). -/
  | mtsprVrsave (rS : GReg)
  /-- `rfi`: return from exception (60_exceptions.md R532). -/
  | rfi
  deriving DecidableEq, Repr

/-- Why a word is not an instruction of the spec. -/
inductive Rejection where
  /-- An assigned instruction with a reserved field that is not zero (30_encoding.md R159, D16). -/
  | reservedField
  /-- A word of the base architecture, or of none, to which the spec gives no meaning (70_reset_and_hazards.md R581, D25). -/
  | outsideSpec
  /-- Fewer than the four bytes of an instruction (30_encoding.md R140). -/
  | tooShort
  deriving DecidableEq, Repr

/-- What decoding gives (70_reset_and_hazards.md R582). -/
inductive Decoded where
  /-- An instruction of the opcode table. -/
  | instr (i : Instr)
  /-- One of the three base instructions with a meaning. -/
  | base (b : BaseInstr)
  /-- An unassigned encoding under primary opcode 4: an illegal instruction (30_encoding.md R158). -/
  | illegal
  /-- A word the model refuses. -/
  | rejected (r : Rejection)
  deriving DecidableEq, Repr

/-! ## Fields (30_encoding.md R142 to R151) -/

/-- Bits 6-10: vD, vS, rD or rS (R142). -/
def fieldD (w : Nat) : Fin 32 := ⟨w / 2097152 % 32, Nat.mod_lt _ (by decide)⟩
/-- Bits 11-15: vA or rA (R142). -/
def fieldA (w : Nat) : Fin 32 := ⟨w / 65536 % 32, Nat.mod_lt _ (by decide)⟩
/-- Bits 16-20: vB or rB (R142). -/
def fieldB (w : Nat) : Fin 32 := ⟨w / 2048 % 32, Nat.mod_lt _ (by decide)⟩
/-- Bits 21-25: vC (R142). -/
def fieldC (w : Nat) : Fin 32 := ⟨w / 64 % 32, Nat.mod_lt _ (by decide)⟩
/-- Bits 22-25: SHB (R150). -/
def fieldSHB (w : Nat) : Fin 16 := ⟨w / 64 % 16, Nat.mod_lt _ (by decide)⟩
/-- Bits 11-15 as an immediate: SIMM or UIMM (R148, R149). -/
def fieldImm (w : Nat) : BitVec 5 := BitVec.ofNat 5 (w / 65536)
/-- Bits 9-10: STRM (R151). -/
def fieldSTRM (w : Nat) : Fin 4 := ⟨w / 2097152 % 4, Nat.mod_lt _ (by decide)⟩
/-- Bit 21: the record bit Rc of a compare, or the reserved bit of vsldoi (R146, R150). -/
def bit21 (w : Nat) : Bool := w / 1024 % 2 == 1
/-- Bit 6: T of a touch instruction, A of dss (R151). -/
def bit6 (w : Nat) : Bool := w / 33554432 % 2 == 1

/-! ## Layouts: each takes the constructor of the row and reads the operands of its layout, or finds a reserved bit set (R159) -/

/-- `ok` where the reserved field `z` is zero; else the word is refused (R159, D16). -/
def reservedZero (z : Nat) (ok : Decoded) : Decoded := if z = 0 then ok else .rejected .reservedField

/-- VX layout DAB (R144), and the X form loads and stores (R147). -/
def layDAB (c : Fin 32 → Fin 32 → Fin 32 → Instr) (w : Nat) : Decoded := .instr (c (fieldD w) (fieldA w) (fieldB w))
/-- VA form with four registers (R143). -/
def layDABC (c : Fin 32 → Fin 32 → Fin 32 → Fin 32 → Instr) (w : Nat) : Decoded :=
  .instr (c (fieldD w) (fieldA w) (fieldB w) (fieldC w))
/-- VA form of vsldoi; bit 21 is reserved (R143, R150). -/
def laySldoi (c : Fin 32 → Fin 32 → Fin 32 → Fin 16 → Instr) (w : Nat) : Decoded :=
  reservedZero (w / 1024 % 2) (.instr (c (fieldD w) (fieldA w) (fieldB w) (fieldSHB w)))
/-- VX layout DB; bits 11-15 are reserved (R144). -/
def layDB (c : Fin 32 → Fin 32 → Instr) (w : Nat) : Decoded :=
  reservedZero (w / 65536 % 32) (.instr (c (fieldD w) (fieldB w)))
/-- VX layout DUB (R144, R149). -/
def layDUB (c : Fin 32 → BitVec 5 → Fin 32 → Instr) (w : Nat) : Decoded := .instr (c (fieldD w) (fieldImm w) (fieldB w))
/-- VX layout DS; bits 16-20 are reserved (R144, R148). -/
def layDS (c : Fin 32 → BitVec 5 → Instr) (w : Nat) : Decoded :=
  reservedZero (w / 2048 % 32) (.instr (c (fieldD w) (fieldImm w)))
/-- VX layout D; bits 11-20 are reserved (R144). -/
def layD (c : Fin 32 → Instr) (w : Nat) : Decoded := reservedZero (w / 2048 % 1024) (.instr (c (fieldD w)))
/-- VX layout B; bits 6-15 are reserved (R144). -/
def layB (c : Fin 32 → Instr) (w : Nat) : Decoded := reservedZero (w / 65536 % 1024) (.instr (c (fieldB w)))
/-- VXR form (R145, R146). -/
def layVXR (c : Fin 32 → Fin 32 → Fin 32 → Bool → Instr) (w : Nat) : Decoded :=
  .instr (c (fieldD w) (fieldA w) (fieldB w) (bit21 w))
/-- X form of a touch instruction: bit 6 chooses the row, bits 7-8 are reserved (R147, R151). -/
def layTouch (c ct : Fin 4 → Fin 32 → Fin 32 → Instr) (w : Nat) : Decoded :=
  reservedZero (w / 8388608 % 4)
    (.instr (if bit6 w then ct (fieldSTRM w) (fieldA w) (fieldB w) else c (fieldSTRM w) (fieldA w) (fieldB w)))
/-- X form of dss and dssall: bit 6 chooses the row, bits 7-8 and 11-20 are reserved; dssall ignores STRM (R147, R151). -/
def layStop (w : Nat) : Decoded :=
  reservedZero (w / 8388608 % 4 + w / 2048 % 1024) (.instr (if bit6 w then .dssall else .dss (fieldSTRM w)))
/-- The moves to and from an SPR: only SPR 256 has a meaning, its number's halves exchanged in bits 11-20
(45_vscr_control.md R483, R484, R486). PRESUMED encoding (log 15). -/
def laySpr (c : Fin 32 → BaseInstr) (w : Nat) : Decoded :=
  if w / 2048 % 1024 = 8 then .base (c (fieldD w)) else .rejected .outsideSpec

/-! ## The tables -/

/-- VA form, by `W mod 64` (30_encoding.md R153); 35 and 45 are unassigned. -/
def decodeVA (w : Nat) : Decoded :=
  match w % 64 with
  | 32 => layDABC .vmhaddshs w
  | 33 => layDABC .vmhraddshs w
  | 34 => layDABC .vmladduhm w
  | 36 => layDABC .vmsumubm w
  | 37 => layDABC .vmsummbm w
  | 38 => layDABC .vmsumuhm w
  | 39 => layDABC .vmsumuhs w
  | 40 => layDABC .vmsumshm w
  | 41 => layDABC .vmsumshs w
  | 42 => layDABC .vsel w
  | 43 => layDABC .vperm w
  | 44 => laySldoi .vsldoi w
  | 46 => layDABC .vmaddfp w
  | 47 => layDABC .vnmsubfp w
  | _ => .illegal

/-- VXR form, by `W mod 1024` (30_encoding.md R155). -/
def decodeVXR (w : Nat) : Decoded :=
  match w % 1024 with
  | 6 => layVXR .vcmpequb w
  | 70 => layVXR .vcmpequh w
  | 134 => layVXR .vcmpequw w
  | 198 => layVXR .vcmpeqfp w
  | 454 => layVXR .vcmpgefp w
  | 518 => layVXR .vcmpgtub w
  | 582 => layVXR .vcmpgtuh w
  | 646 => layVXR .vcmpgtuw w
  | 710 => layVXR .vcmpgtfp w
  | 774 => layVXR .vcmpgtsb w
  | 838 => layVXR .vcmpgtsh w
  | 902 => layVXR .vcmpgtsw w
  | 966 => layVXR .vcmpbfp w
  | _ => .illegal

/-- VX form, `W mod 2048` from 0 to 511 (30_encoding.md R154). -/
def decodeVX0 (w : Nat) : Decoded :=
  match w % 2048 with
  | 0 => layDAB .vaddubm w
  | 2 => layDAB .vmaxub w
  | 4 => layDAB .vrlb w
  | 8 => layDAB .vmuloub w
  | 10 => layDAB .vaddfp w
  | 12 => layDAB .vmrghb w
  | 14 => layDAB .vpkuhum w
  | 64 => layDAB .vadduhm w
  | 66 => layDAB .vmaxuh w
  | 68 => layDAB .vrlh w
  | 72 => layDAB .vmulouh w
  | 74 => layDAB .vsubfp w
  | 76 => layDAB .vmrghh w
  | 78 => layDAB .vpkuwum w
  | 128 => layDAB .vadduwm w
  | 130 => layDAB .vmaxuw w
  | 132 => layDAB .vrlw w
  | 140 => layDAB .vmrghw w
  | 142 => layDAB .vpkuhus w
  | 206 => layDAB .vpkuwus w
  | 258 => layDAB .vmaxsb w
  | 260 => layDAB .vslb w
  | 264 => layDAB .vmulosb w
  | 266 => layDB .vrefp w
  | 268 => layDAB .vmrglb w
  | 270 => layDAB .vpkshus w
  | 322 => layDAB .vmaxsh w
  | 324 => layDAB .vslh w
  | 328 => layDAB .vmulosh w
  | 330 => layDB .vrsqrtefp w
  | 332 => layDAB .vmrglh w
  | 334 => layDAB .vpkswus w
  | 384 => layDAB .vaddcuw w
  | 386 => layDAB .vmaxsw w
  | 388 => layDAB .vslw w
  | 394 => layDB .vexptefp w
  | 396 => layDAB .vmrglw w
  | 398 => layDAB .vpkshss w
  | 452 => layDAB .vsl w
  | 458 => layDB .vlogefp w
  | 462 => layDAB .vpkswss w
  | _ => .illegal

/-- VX form, `W mod 2048` from 512 to 1023 (30_encoding.md R154). -/
def decodeVX1 (w : Nat) : Decoded :=
  match w % 2048 with
  | 512 => layDAB .vaddubs w
  | 514 => layDAB .vminub w
  | 516 => layDAB .vsrb w
  | 520 => layDAB .vmuleub w
  | 522 => layDB .vrfin w
  | 524 => layDUB .vspltb w
  | 526 => layDB .vupkhsb w
  | 576 => layDAB .vadduhs w
  | 578 => layDAB .vminuh w
  | 580 => layDAB .vsrh w
  | 584 => layDAB .vmuleuh w
  | 586 => layDB .vrfiz w
  | 588 => layDUB .vsplth w
  | 590 => layDB .vupkhsh w
  | 640 => layDAB .vadduws w
  | 642 => layDAB .vminuw w
  | 644 => layDAB .vsrw w
  | 650 => layDB .vrfip w
  | 652 => layDUB .vspltw w
  | 654 => layDB .vupklsb w
  | 708 => layDAB .vsr w
  | 714 => layDB .vrfim w
  | 718 => layDB .vupklsh w
  | 768 => layDAB .vaddsbs w
  | 770 => layDAB .vminsb w
  | 772 => layDAB .vsrab w
  | 776 => layDAB .vmulesb w
  | 778 => layDUB .vcfux w
  | 780 => layDS .vspltisb w
  | 782 => layDAB .vpkpx w
  | 832 => layDAB .vaddshs w
  | 834 => layDAB .vminsh w
  | 836 => layDAB .vsrah w
  | 840 => layDAB .vmulesh w
  | 842 => layDUB .vcfsx w
  | 844 => layDS .vspltish w
  | 846 => layDB .vupkhpx w
  | 896 => layDAB .vaddsws w
  | 898 => layDAB .vminsw w
  | 900 => layDAB .vsraw w
  | 906 => layDUB .vctuxs w
  | 908 => layDS .vspltisw w
  | 970 => layDUB .vctsxs w
  | 974 => layDB .vupklpx w
  | _ => .illegal

/-- VX form, `W mod 2048` from 1024 to 1535 (30_encoding.md R154). -/
def decodeVX2 (w : Nat) : Decoded :=
  match w % 2048 with
  | 1024 => layDAB .vsububm w
  | 1026 => layDAB .vavgub w
  | 1028 => layDAB .vand w
  | 1034 => layDAB .vmaxfp w
  | 1036 => layDAB .vslo w
  | 1088 => layDAB .vsubuhm w
  | 1090 => layDAB .vavguh w
  | 1092 => layDAB .vandc w
  | 1098 => layDAB .vminfp w
  | 1100 => layDAB .vsro w
  | 1152 => layDAB .vsubuwm w
  | 1154 => layDAB .vavguw w
  | 1156 => layDAB .vor w
  | 1220 => layDAB .vxor w
  | 1282 => layDAB .vavgsb w
  | 1284 => layDAB .vnor w
  | 1346 => layDAB .vavgsh w
  | 1408 => layDAB .vsubcuw w
  | 1410 => layDAB .vavgsw w
  | _ => .illegal

/-- VX form, `W mod 2048` from 1536 to 2047 (30_encoding.md R154). -/
def decodeVX3 (w : Nat) : Decoded :=
  match w % 2048 with
  | 1536 => layDAB .vsububs w
  | 1540 => layD .mfvscr w
  | 1544 => layDAB .vsum4ubs w
  | 1600 => layDAB .vsubuhs w
  | 1604 => layB .mtvscr w
  | 1608 => layDAB .vsum4shs w
  | 1664 => layDAB .vsubuws w
  | 1672 => layDAB .vsum2sws w
  | 1792 => layDAB .vsubsbs w
  | 1800 => layDAB .vsum4sbs w
  | 1856 => layDAB .vsubshs w
  | 1920 => layDAB .vsubsws w
  | 1928 => layDAB .vsumsws w
  | _ => .illegal

/-- VX form, by `W mod 2048` (30_encoding.md R154), a quarter of the table at a time. -/
def decodeVX (w : Nat) : Decoded :=
  match w / 512 % 4 with
  | 0 => decodeVX0 w
  | 1 => decodeVX1 w
  | 2 => decodeVX2 w
  | _ => decodeVX3 w

/-- Primary opcode 4 (30_encoding.md R157 step 2): VA form where `W mod 64` is 32 to 47, VXR form where it is 6, else VX form. -/
def decodeOp4 (w : Nat) : Decoded :=
  if w / 16 % 4 = 2 then decodeVA w else if w % 64 = 6 then decodeVXR w else decodeVX w

/-- Primary opcode 31 (30_encoding.md R156, R157 step 3; 45_vscr_control.md R483, R484): bit 31 is 0 and `(W >> 1) mod 1024` is one
of the fifteen extended opcodes or of the two SPR moves; else the word belongs to the base architecture. -/
def decodeOp31 (w : Nat) : Decoded :=
  match w % 2048 with
  | 12 => layDAB .lvsl w
  | 14 => layDAB .lvebx w
  | 76 => layDAB .lvsr w
  | 78 => layDAB .lvehx w
  | 142 => layDAB .lvewx w
  | 206 => layDAB .lvx w
  | 270 => layDAB .stvebx w
  | 334 => layDAB .stvehx w
  | 398 => layDAB .stvewx w
  | 462 => layDAB .stvx w
  | 684 => layTouch .dst .dstt w
  | 718 => layDAB .lvxl w
  | 748 => layTouch .dstst .dststt w
  | 974 => layDAB .stvxl w
  | 1644 => layStop w
  | 678 => laySpr .mfsprVrsave w
  | 934 => laySpr .mtsprVrsave w
  | _ => .rejected .outsideSpec

/-- Decoding the word `w`, a number below 2^32 (30_encoding.md R157; `rfi` 60_exceptions.md R532, PRESUMED encoding, log 14). -/
def decodeNat (w : Nat) : Decoded :=
  if w / 67108864 = 4 then decodeOp4 w
  else if w / 67108864 = 31 then decodeOp31 w
  else if w = 0x4C000064 then .base .rfi
  else .rejected .outsideSpec

/-- Decoding an instruction word (30_encoding.md R157). -/
def decodeWord (w : Word) : Decoded := decodeNat w.toNat

/-- The word of four bytes, the first the most significant (20_memory.md R126, 00_scope.md R14). -/
def wordOfBytes (b0 b1 b2 b3 : Byte) : Word :=
  BitVec.ofNat 32 (b0.toNat * 16777216 + b1.toNat * 65536 + b2.toNat * 256 + b3.toNat)

/-- Decoding bytes as they lie in memory, the first at the lowest address; bytes after the fourth are not read. -/
def decode (bytes : List Byte) : Decoded :=
  match bytes with
  | b0 :: b1 :: b2 :: b3 :: _ => decodeWord (wordOfBytes b0 b1 b2 b3)
  | _ => .rejected .tooShort

/-- The four bytes of a word, the most significant first. -/
def bytesOfWord (w : Word) : List Byte :=
  [w.extractLsb' 24 8, w.extractLsb' 16 8, w.extractLsb' 8 8, w.extractLsb' 0 8]

/-- What the decoder reads from an instruction whose bits are `w`; bits from `nbits` up are zero. -/
def decodeTableWord (nbits w : Nat) : Option Instr :=
  match decode (bytesOfWord (BitVec.ofNat 32 (w % 2 ^ nbits))) with
  | .instr i => some i
  | _ => none

/-! ## Encoding (30_encoding.md R143 to R156) -/

/-- VX and VA words: primary opcode 4, fields at bits 6-10, 11-15, 16-20, and the rest of the word. -/
def packOp4 (d a b rest : Nat) : Nat := 268435456 + d * 2097152 + a * 65536 + b * 2048 + rest
/-- X words: primary opcode 31. -/
def packOp31 (d a b rest : Nat) : Nat := 2080374784 + d * 2097152 + a * 65536 + b * 2048 + rest

/-- The word of an instruction as a number; the fields the form reserves are zero (R159). -/
def encodeNat (i : Instr) : Nat :=
  match i with
  | .lvsl vD rA rB => packOp31 vD.val rA.val rB.val 12
  | .lvebx vD rA rB => packOp31 vD.val rA.val rB.val 14
  | .lvsr vD rA rB => packOp31 vD.val rA.val rB.val 76
  | .lvehx vD rA rB => packOp31 vD.val rA.val rB.val 78
  | .lvewx vD rA rB => packOp31 vD.val rA.val rB.val 142
  | .lvx vD rA rB => packOp31 vD.val rA.val rB.val 206
  | .stvebx vS rA rB => packOp31 vS.val rA.val rB.val 270
  | .stvehx vS rA rB => packOp31 vS.val rA.val rB.val 334
  | .stvewx vS rA rB => packOp31 vS.val rA.val rB.val 398
  | .stvx vS rA rB => packOp31 vS.val rA.val rB.val 462
  | .lvxl vD rA rB => packOp31 vD.val rA.val rB.val 718
  | .stvxl vS rA rB => packOp31 vS.val rA.val rB.val 974
  | .vmhaddshs vD vA vB vC => packOp4 vD.val vA.val vB.val (vC.val * 64 + 32)
  | .vmhraddshs vD vA vB vC => packOp4 vD.val vA.val vB.val (vC.val * 64 + 33)
  | .vmladduhm vD vA vB vC => packOp4 vD.val vA.val vB.val (vC.val * 64 + 34)
  | .vmsumubm vD vA vB vC => packOp4 vD.val vA.val vB.val (vC.val * 64 + 36)
  | .vmsummbm vD vA vB vC => packOp4 vD.val vA.val vB.val (vC.val * 64 + 37)
  | .vmsumuhm vD vA vB vC => packOp4 vD.val vA.val vB.val (vC.val * 64 + 38)
  | .vmsumuhs vD vA vB vC => packOp4 vD.val vA.val vB.val (vC.val * 64 + 39)
  | .vmsumshm vD vA vB vC => packOp4 vD.val vA.val vB.val (vC.val * 64 + 40)
  | .vmsumshs vD vA vB vC => packOp4 vD.val vA.val vB.val (vC.val * 64 + 41)
  | .vaddubm vD vA vB => packOp4 vD.val vA.val vB.val 0
  | .vmaxub vD vA vB => packOp4 vD.val vA.val vB.val 2
  | .vmuloub vD vA vB => packOp4 vD.val vA.val vB.val 8
  | .vadduhm vD vA vB => packOp4 vD.val vA.val vB.val 64
  | .vmaxuh vD vA vB => packOp4 vD.val vA.val vB.val 66
  | .vmulouh vD vA vB => packOp4 vD.val vA.val vB.val 72
  | .vadduwm vD vA vB => packOp4 vD.val vA.val vB.val 128
  | .vmaxuw vD vA vB => packOp4 vD.val vA.val vB.val 130
  | .vmaxsb vD vA vB => packOp4 vD.val vA.val vB.val 258
  | .vmulosb vD vA vB => packOp4 vD.val vA.val vB.val 264
  | .vmaxsh vD vA vB => packOp4 vD.val vA.val vB.val 322
  | .vmulosh vD vA vB => packOp4 vD.val vA.val vB.val 328
  | .vaddcuw vD vA vB => packOp4 vD.val vA.val vB.val 384
  | .vmaxsw vD vA vB => packOp4 vD.val vA.val vB.val 386
  | .vaddubs vD vA vB => packOp4 vD.val vA.val vB.val 512
  | .vminub vD vA vB => packOp4 vD.val vA.val vB.val 514
  | .vmuleub vD vA vB => packOp4 vD.val vA.val vB.val 520
  | .vadduhs vD vA vB => packOp4 vD.val vA.val vB.val 576
  | .vminuh vD vA vB => packOp4 vD.val vA.val vB.val 578
  | .vmuleuh vD vA vB => packOp4 vD.val vA.val vB.val 584
  | .vadduws vD vA vB => packOp4 vD.val vA.val vB.val 640
  | .vminuw vD vA vB => packOp4 vD.val vA.val vB.val 642
  | .vaddsbs vD vA vB => packOp4 vD.val vA.val vB.val 768
  | .vminsb vD vA vB => packOp4 vD.val vA.val vB.val 770
  | .vmulesb vD vA vB => packOp4 vD.val vA.val vB.val 776
  | .vaddshs vD vA vB => packOp4 vD.val vA.val vB.val 832
  | .vminsh vD vA vB => packOp4 vD.val vA.val vB.val 834
  | .vmulesh vD vA vB => packOp4 vD.val vA.val vB.val 840
  | .vaddsws vD vA vB => packOp4 vD.val vA.val vB.val 896
  | .vminsw vD vA vB => packOp4 vD.val vA.val vB.val 898
  | .vsububm vD vA vB => packOp4 vD.val vA.val vB.val 1024
  | .vavgub vD vA vB => packOp4 vD.val vA.val vB.val 1026
  | .vsubuhm vD vA vB => packOp4 vD.val vA.val vB.val 1088
  | .vavguh vD vA vB => packOp4 vD.val vA.val vB.val 1090
  | .vsubuwm vD vA vB => packOp4 vD.val vA.val vB.val 1152
  | .vavguw vD vA vB => packOp4 vD.val vA.val vB.val 1154
  | .vavgsb vD vA vB => packOp4 vD.val vA.val vB.val 1282
  | .vavgsh vD vA vB => packOp4 vD.val vA.val vB.val 1346
  | .vsubcuw vD vA vB => packOp4 vD.val vA.val vB.val 1408
  | .vavgsw vD vA vB => packOp4 vD.val vA.val vB.val 1410
  | .vsububs vD vA vB => packOp4 vD.val vA.val vB.val 1536
  | .vsum4ubs vD vA vB => packOp4 vD.val vA.val vB.val 1544
  | .vsubuhs vD vA vB => packOp4 vD.val vA.val vB.val 1600
  | .vsum4shs vD vA vB => packOp4 vD.val vA.val vB.val 1608
  | .vsubuws vD vA vB => packOp4 vD.val vA.val vB.val 1664
  | .vsum2sws vD vA vB => packOp4 vD.val vA.val vB.val 1672
  | .vsubsbs vD vA vB => packOp4 vD.val vA.val vB.val 1792
  | .vsum4sbs vD vA vB => packOp4 vD.val vA.val vB.val 1800
  | .vsubshs vD vA vB => packOp4 vD.val vA.val vB.val 1856
  | .vsubsws vD vA vB => packOp4 vD.val vA.val vB.val 1920
  | .vsumsws vD vA vB => packOp4 vD.val vA.val vB.val 1928
  | .vrlb vD vA vB => packOp4 vD.val vA.val vB.val 4
  | .vrlh vD vA vB => packOp4 vD.val vA.val vB.val 68
  | .vrlw vD vA vB => packOp4 vD.val vA.val vB.val 132
  | .vslb vD vA vB => packOp4 vD.val vA.val vB.val 260
  | .vslh vD vA vB => packOp4 vD.val vA.val vB.val 324
  | .vslw vD vA vB => packOp4 vD.val vA.val vB.val 388
  | .vsrb vD vA vB => packOp4 vD.val vA.val vB.val 516
  | .vsrh vD vA vB => packOp4 vD.val vA.val vB.val 580
  | .vsrw vD vA vB => packOp4 vD.val vA.val vB.val 644
  | .vsrab vD vA vB => packOp4 vD.val vA.val vB.val 772
  | .vsrah vD vA vB => packOp4 vD.val vA.val vB.val 836
  | .vsraw vD vA vB => packOp4 vD.val vA.val vB.val 900
  | .vand vD vA vB => packOp4 vD.val vA.val vB.val 1028
  | .vandc vD vA vB => packOp4 vD.val vA.val vB.val 1092
  | .vor vD vA vB => packOp4 vD.val vA.val vB.val 1156
  | .vxor vD vA vB => packOp4 vD.val vA.val vB.val 1220
  | .vnor vD vA vB => packOp4 vD.val vA.val vB.val 1284
  | .vcmpequb vD vA vB rc => packOp4 vD.val vA.val vB.val (rc.toNat * 1024 + 6)
  | .vcmpequh vD vA vB rc => packOp4 vD.val vA.val vB.val (rc.toNat * 1024 + 70)
  | .vcmpequw vD vA vB rc => packOp4 vD.val vA.val vB.val (rc.toNat * 1024 + 134)
  | .vcmpgtub vD vA vB rc => packOp4 vD.val vA.val vB.val (rc.toNat * 1024 + 518)
  | .vcmpgtuh vD vA vB rc => packOp4 vD.val vA.val vB.val (rc.toNat * 1024 + 582)
  | .vcmpgtuw vD vA vB rc => packOp4 vD.val vA.val vB.val (rc.toNat * 1024 + 646)
  | .vcmpgtsb vD vA vB rc => packOp4 vD.val vA.val vB.val (rc.toNat * 1024 + 774)
  | .vcmpgtsh vD vA vB rc => packOp4 vD.val vA.val vB.val (rc.toNat * 1024 + 838)
  | .vcmpgtsw vD vA vB rc => packOp4 vD.val vA.val vB.val (rc.toNat * 1024 + 902)
  | .vmaddfp vD vA vB vC => packOp4 vD.val vA.val vB.val (vC.val * 64 + 46)
  | .vnmsubfp vD vA vB vC => packOp4 vD.val vA.val vB.val (vC.val * 64 + 47)
  | .vaddfp vD vA vB => packOp4 vD.val vA.val vB.val 10
  | .vsubfp vD vA vB => packOp4 vD.val vA.val vB.val 74
  | .vrefp vD vB => packOp4 vD.val 0 vB.val 266
  | .vrsqrtefp vD vB => packOp4 vD.val 0 vB.val 330
  | .vexptefp vD vB => packOp4 vD.val 0 vB.val 394
  | .vlogefp vD vB => packOp4 vD.val 0 vB.val 458
  | .vrfin vD vB => packOp4 vD.val 0 vB.val 522
  | .vrfiz vD vB => packOp4 vD.val 0 vB.val 586
  | .vrfip vD vB => packOp4 vD.val 0 vB.val 650
  | .vrfim vD vB => packOp4 vD.val 0 vB.val 714
  | .vcfux vD uimm vB => packOp4 vD.val uimm.toNat vB.val 778
  | .vcfsx vD uimm vB => packOp4 vD.val uimm.toNat vB.val 842
  | .vctuxs vD uimm vB => packOp4 vD.val uimm.toNat vB.val 906
  | .vctsxs vD uimm vB => packOp4 vD.val uimm.toNat vB.val 970
  | .vmaxfp vD vA vB => packOp4 vD.val vA.val vB.val 1034
  | .vminfp vD vA vB => packOp4 vD.val vA.val vB.val 1098
  | .vcmpeqfp vD vA vB rc => packOp4 vD.val vA.val vB.val (rc.toNat * 1024 + 198)
  | .vcmpgefp vD vA vB rc => packOp4 vD.val vA.val vB.val (rc.toNat * 1024 + 454)
  | .vcmpgtfp vD vA vB rc => packOp4 vD.val vA.val vB.val (rc.toNat * 1024 + 710)
  | .vcmpbfp vD vA vB rc => packOp4 vD.val vA.val vB.val (rc.toNat * 1024 + 966)
  | .vsel vD vA vB vC => packOp4 vD.val vA.val vB.val (vC.val * 64 + 42)
  | .vperm vD vA vB vC => packOp4 vD.val vA.val vB.val (vC.val * 64 + 43)
  | .vsldoi vD vA vB shb => packOp4 vD.val vA.val vB.val (shb.val * 64 + 44)
  | .vmrghb vD vA vB => packOp4 vD.val vA.val vB.val 12
  | .vpkuhum vD vA vB => packOp4 vD.val vA.val vB.val 14
  | .vmrghh vD vA vB => packOp4 vD.val vA.val vB.val 76
  | .vpkuwum vD vA vB => packOp4 vD.val vA.val vB.val 78
  | .vmrghw vD vA vB => packOp4 vD.val vA.val vB.val 140
  | .vpkuhus vD vA vB => packOp4 vD.val vA.val vB.val 142
  | .vpkuwus vD vA vB => packOp4 vD.val vA.val vB.val 206
  | .vmrglb vD vA vB => packOp4 vD.val vA.val vB.val 268
  | .vpkshus vD vA vB => packOp4 vD.val vA.val vB.val 270
  | .vmrglh vD vA vB => packOp4 vD.val vA.val vB.val 332
  | .vpkswus vD vA vB => packOp4 vD.val vA.val vB.val 334
  | .vmrglw vD vA vB => packOp4 vD.val vA.val vB.val 396
  | .vpkshss vD vA vB => packOp4 vD.val vA.val vB.val 398
  | .vsl vD vA vB => packOp4 vD.val vA.val vB.val 452
  | .vpkswss vD vA vB => packOp4 vD.val vA.val vB.val 462
  | .vspltb vD uimm vB => packOp4 vD.val uimm.toNat vB.val 524
  | .vupkhsb vD vB => packOp4 vD.val 0 vB.val 526
  | .vsplth vD uimm vB => packOp4 vD.val uimm.toNat vB.val 588
  | .vupkhsh vD vB => packOp4 vD.val 0 vB.val 590
  | .vspltw vD uimm vB => packOp4 vD.val uimm.toNat vB.val 652
  | .vupklsb vD vB => packOp4 vD.val 0 vB.val 654
  | .vsr vD vA vB => packOp4 vD.val vA.val vB.val 708
  | .vupklsh vD vB => packOp4 vD.val 0 vB.val 718
  | .vspltisb vD simm => packOp4 vD.val simm.toNat 0 780
  | .vpkpx vD vA vB => packOp4 vD.val vA.val vB.val 782
  | .vspltish vD simm => packOp4 vD.val simm.toNat 0 844
  | .vupkhpx vD vB => packOp4 vD.val 0 vB.val 846
  | .vspltisw vD simm => packOp4 vD.val simm.toNat 0 908
  | .vupklpx vD vB => packOp4 vD.val 0 vB.val 974
  | .vslo vD vA vB => packOp4 vD.val vA.val vB.val 1036
  | .vsro vD vA vB => packOp4 vD.val vA.val vB.val 1100
  | .mfvscr vD => packOp4 vD.val 0 0 1540
  | .mtvscr vB => packOp4 0 0 vB.val 1604
  | .dst strm rA rB => packOp31 strm.val rA.val rB.val 684
  | .dstt strm rA rB => packOp31 (16 + strm.val) rA.val rB.val 684
  | .dstst strm rA rB => packOp31 strm.val rA.val rB.val 748
  | .dststt strm rA rB => packOp31 (16 + strm.val) rA.val rB.val 748
  | .dss strm => packOp31 strm.val 0 0 1644
  | .dssall => packOp31 16 0 0 1644

/-- The word of an instruction. -/
def encode (i : Instr) : Word := BitVec.ofNat 32 (encodeNat i)

/-- The bytes of an instruction as they lie in memory in big-endian mode. -/
def encodeBytes (i : Instr) : List Byte := bytesOfWord (encode i)

/-- The word of a base instruction (R483, R484, R532). -/
def encodeBase (b : BaseInstr) : Word :=
  match b with
  | .mfsprVrsave rD => BitVec.ofNat 32 (packOp31 rD.val 0 8 678)
  | .mtsprVrsave rS => BitVec.ofNat 32 (packOp31 rS.val 0 8 934)
  | .rfi => 0x4C000064

end Sys2Proof
end

