-- ==== Sys2Proof/Config.lean ====
section
/-! DEFINITION. What an implementation fixes, and the values the spec leaves open (00_scope.md R9, 92_eei_decisions.md,
93_implementation_defined.md). An `opaque` constant has no body: nothing can be proved of its value. -/
namespace Sys2Proof.Config

/-- P_JAVA_IMPLEMENTED: whether Java mode exists; OPEN (00_scope.md R9, D5). Log 6. -/
opaque javaImplemented : Bool

/-- undefined(128) for the draw numbered `n` (00_scope.md R19 (a)). Log 9. -/
opaque undefinedQuad (n : Nat) : Quad

/-- undefined(32) for the draw numbered `n` (00_scope.md R19 (a)). Log 8, log 21. -/
opaque undefinedWord (n : Nat) : Word

/-- P_EST_RECIP before the spec's bounds are imposed on it: OPEN (D6). The arguments are the draw, the element number, the source
pattern and NJ. Log 10. -/
opaque estRecip (draw k : Nat) (x : Word) (nj : Bool) : Word
/-- P_EST_RSQRT before the spec's bounds are imposed on it: OPEN (D6). Log 10. -/
opaque estRsqrt (draw k : Nat) (x : Word) (nj : Bool) : Word
/-- P_EST_EXP2 before the spec's bounds are imposed on it: OPEN (D6). Log 10. -/
opaque estExp2 (draw k : Nat) (x : Word) (nj : Bool) : Word
/-- P_EST_LOG2 before the spec's bounds are imposed on it: OPEN (D6). Log 10. -/
opaque estLog2 (draw k : Nat) (x : Word) (nj : Bool) : Word

/-- What the prefetch engine does with the stream in slot `k` at the draw numbered `n`: with `none` the stream ends, "completion, or
the hardware aborts it"; with `some u` it goes on, and if it is enabled `u` more units are prefetched (46_data_stream.md R494,
R497). Log 23. -/
opaque streamFate (n : Nat) (k : Nat) : Option Nat

end Sys2Proof.Config
end

