-- ==== Sys2Proof/Machine/State.lean ====
section
/-! DEFINITION. The state of one processor (10_state.md R40 to R71; 20_memory.md R90; 46_data_stream.md R494), and the machine
right after reset (70_reset_and_hazards.md R550, R551). Plain data: no field is a function. -/
namespace Sys2Proof.Machine

/-- Whether a stream was started for loading (dst, dstt) or for storing (dstst, dststt) (46_data_stream.md R498). -/
inductive StreamKind where
  /-- dst, dstt. -/
  | load
  /-- dstst, dststt. -/
  | store
  deriving DecidableEq, Repr

/-- A data stream in one of the four slots (10_state.md R68, 46_data_stream.md R490, R491, R494). -/
structure Stream where
  /-- The effective address of the first unit. -/
  ea : Word
  /-- The unit size in quad words, 1 to 32. -/
  size : Nat
  /-- The number of units, 1 to 256. -/
  count : Nat
  /-- The signed stride in bytes, -32768 to +32768 and not 0. -/
  stride : Int
  /-- The flag T: transient. -/
  transient : Bool
  /-- Load or store. -/
  kind : StreamKind
  /-- MSR[PR] when the stream was started. -/
  pr : Bool
  /-- How many units have been prefetched, fewer than `count`; no instruction observes it (R494, R497). Log 23. -/
  progress : Nat
  deriving DecidableEq, Repr

/-- The registers that 10_state.md R71 names and that no rule reads or writes. Every instruction keeps them. Log 31. -/
structure BaseRegs where
  /-- FPR0 to FPR31. -/
  fpr : Vector (BitVec 64) 32
  /-- FPSCR. -/
  fpscr : Word
  /-- XER, SPR 1. -/
  xer : Word
  /-- LR, SPR 8. -/
  lr : Word
  /-- CTR, SPR 9. -/
  ctr : Word
  /-- TBL, TBR 268, SPR 284. -/
  tbl : Word
  /-- TBU, TBR 269, SPR 285. -/
  tbu : Word
  /-- PVR, SPR 287. -/
  pvr : Word
  /-- IBAT0U, IBAT0L to IBAT3L, SPR 528 to 535. -/
  ibat : Vector Word 8
  /-- DBAT0U, DBAT0L to DBAT3L, SPR 536 to 543. -/
  dbat : Vector Word 8
  /-- SDR1, SPR 25. -/
  sdr1 : Word
  /-- SR0 to SR15. -/
  sr : Vector Word 16
  /-- SPRG0 to SPRG3, SPR 272 to 275. -/
  sprg : Vector Word 4
  /-- DEC, SPR 22. -/
  dec : Word
  /-- DABR, SPR 1013, optional. -/
  dabr : Word
  /-- EAR, SPR 282, optional. -/
  ear : Word
  /-- PIR, SPR 1023, optional. -/
  pir : Word
  /-- FPECR, SPR 1022, optional. -/
  fpecr : Word
  deriving DecidableEq, Repr

/-- The state of the processor and its memory (10_state.md R40). -/
structure State where
  /-- VR0 to VR31 (R41). -/
  vr : Vector Quad 32
  /-- GPR0 to GPR31 (R58). -/
  gpr : Vector Word 32
  /-- CIA, the address of the instruction to execute (R59). -/
  pc : Word
  /-- The condition register; CR6 is its bits 24 to 27 (R55). -/
  cr : Word
  /-- The machine state register (R60). -/
  msr : Word
  /-- The vector status and control register as it was last written (R44); it is read through `State.vscrValue`. -/
  vscr : Word
  /-- VRSAVE, SPR 256 (R52). -/
  vrsave : Word
  /-- SRR0, SPR 26 (R66). -/
  srr0 : Word
  /-- SRR1, SPR 27 (R67). -/
  srr1 : Word
  /-- DAR, SPR 19 (R71, 60_exceptions.md R518). -/
  dar : Word
  /-- DSISR, SPR 18 (R71, 60_exceptions.md R518). -/
  dsisr : Word
  /-- The four data-stream slots (R68). -/
  streams : Vector (Option Stream) 4
  /-- Memory, indexed after the address modification (20_memory.md R90), in the canonical form of `Memory.wf`. -/
  mem : List Host.Cell
  /-- The registers the spec only names (R71). -/
  base : BaseRegs
  /-- The model's own field: how many free values have been drawn (00_scope.md R19 (a)). Log 9. -/
  draws : Nat
  deriving DecidableEq, Repr

/-- Why the machine would stop with a fault. There is no constructor: every exceptional condition the spec describes is taken
as an exception (60_exceptions.md R510), and every address of the 32-bit space is memory (20_memory.md R122, D9). Safe. -/
inductive Fault
  deriving DecidableEq, Repr

/-- Why the machine refuses a step. -/
inductive Refusal where
  /-- Raised by `exec` for an instruction that has no meaning yet; no arm raises it. Safe. -/
  | notModelled (mnemonic : String)
  /-- Raised by `step` for an assigned instruction with a reserved field that is not zero (30_encoding.md R159, D16). Safe. -/
  | reservedField
  /-- Raised by `step` for a word to which the spec gives no meaning (70_reset_and_hazards.md R581, D25). Safe. -/
  | outsideSpec
  deriving DecidableEq, Repr

/-- What executing an instruction gives. -/
abbrev Out := Host.Outcome State Fault Refusal

/-- The named-only registers after reset. DESIGN CHOICE: the spec gives no values. Log 3. -/
def BaseRegs.reset : BaseRegs :=
  { fpr := Vector.replicate 32 0, fpscr := 0, xer := 0, lr := 0, ctr := 0, tbl := 0, tbu := 0, pvr := 0,
    ibat := Vector.replicate 8 0, dbat := Vector.replicate 8 0, sdr1 := 0, sr := Vector.replicate 16 0,
    sprg := Vector.replicate 4 0, dec := 0, dabr := 0, ear := 0, pir := 0, fpecr := 0 }

/-- The machine right after reset (70_reset_and_hazards.md R551). VRSAVE is stated by the spec. `pc` and `msr` are PRESUMED: the
family's hard reset (R550, G17; log 1). `vscr` is a DESIGN CHOICE (log 2), and so are all other registers (log 3). The slots are
idle and memory lists nothing (log 4). -/
def State.reset : State :=
  { vr := Vector.replicate 32 0, gpr := Vector.replicate 32 0, pc := 0xFFF00100, cr := 0, msr := 0x00000040, vscr := 0,
    vrsave := 0, srr0 := 0, srr1 := 0, dar := 0, dsisr := 0, streams := Vector.replicate 4 none, mem := [],
    base := BaseRegs.reset, draws := 0 }

end Sys2Proof.Machine
end

