-- ==== Sys2Proof/Machine/Operands.lean ====
section
/-! DEFINITION. What operands are made of: bits in the spec's numbering, the elements of a quad word, the integer conversions,
and the register files (00_scope.md R10, R11, R16; 41_int_arith.md R221 to R225; 42_int_cmp_logic_shift.md R318). -/
namespace Sys2Proof.Machine

/-! ## Bits and elements -/

/-- Bit `b` of a word in the spec's numbering, bit 0 the most significant (00_scope.md R10). -/
def wordBit (w : Word) (b : Nat) : Bool := w.getLsbD (31 - b)

/-- Element `k` of width `n` of a quad word: bits n*k to n*k+n-1, element 0 the most significant (00_scope.md R11). -/
def elem (n k : Nat) (v : Quad) : BitVec n := v.extractLsb' (128 - n * (k + 1)) n

/-- The quad word whose last elements of width `n` are `f 0 … f (m-1)`, in this order. -/
def buildElems (n : Nat) (f : Nat → BitVec n) : Nat → Quad
  | 0 => 0
  | m + 1 => (buildElems n f m <<< n) ||| (f m).setWidth 128

/-- The quad word whose element `k` of width `n` is `f k` (00_scope.md R11). -/
def build (n : Nat) (f : Nat → BitVec n) : Quad := buildElems n f (128 / n)

/-- Each element a function of the same element of one source. -/
def map1 (n : Nat) (f : BitVec n → BitVec n) (a : Quad) : Quad := build n fun k => f (elem n k a)

/-- Each element a function of the same elements of two sources. -/
def map2 (n : Nat) (f : BitVec n → BitVec n → BitVec n) (a b : Quad) : Quad :=
  build n fun k => f (elem n k a) (elem n k b)

/-- Each element a function of the same elements of three sources. -/
def map3 (n : Nat) (f : BitVec n → BitVec n → BitVec n → BitVec n) (a b c : Quad) : Quad :=
  build n fun k => f (elem n k a) (elem n k b) (elem n k c)

/-- `v` with element `k` of width `n` replaced. -/
def setElem (n k : Nat) (x : BitVec n) (v : Quad) : Quad := build n fun j => if j = k then x else elem n j v

/-- Element `j` of width `n` of the concatenation of `a` followed by `b` (44_permute.md R421, R451). -/
def pairElem (n : Nat) (a b : Quad) (j : Nat) : BitVec n :=
  if j < 128 / n then elem n j a else elem n (j - 128 / n) b

/-- The sum of `f 0 … f (m-1)`. -/
def sumBelow (f : Nat → Int) : Nat → Int
  | 0 => 0
  | m + 1 => sumBelow f m + f m

/-- Whether some `p 0 … p (m-1)` holds. -/
def anyBelow (p : Nat → Bool) : Nat → Bool
  | 0 => false
  | m + 1 => anyBelow p m || p m

/-- Whether all `p 0 … p (m-1)` hold. -/
def allBelow (p : Nat → Bool) : Nat → Bool
  | 0 => true
  | m + 1 => allBelow p m && p m

/-! ## Integer conversions (41_int_arith.md R222 to R225); a saturating one also says whether it saturated -/

/-- `UItoUImod` and `SItoSImod`: the low-order `n` bits (R222). -/
def modulo (n : Nat) (x : Int) : BitVec n := BitVec.ofInt n x

/-- `UItoUIsat(x, n)` for x not negative (R223), and `SItoUIsat(x, n)` (R224), which agree there. -/
def satUnsigned (n : Nat) (x : Int) : BitVec n × Bool :=
  if x > 2 ^ n - 1 then (BitVec.allOnes n, true)
  else if x < 0 then (0, true)
  else (BitVec.ofInt n x, false)

/-- `SItoSIsat(x, n)` (R225). -/
def satSigned (n : Nat) (x : Int) : BitVec n × Bool :=
  if x > 2 ^ (n - 1) - 1 then (BitVec.ofInt n (2 ^ (n - 1) - 1), true)
  else if x < -2 ^ (n - 1) then (BitVec.ofInt n (-2 ^ (n - 1)), true)
  else (BitVec.ofInt n x, false)

/-- `ui(x)`: the unsigned value (R221). -/
def ui {n : Nat} (x : BitVec n) : Int := x.toNat

/-- `si(x)`: the two's-complement value (R221). -/
def si {n : Nat} (x : BitVec n) : Int := x.toInt

/-- A quad word of converted elements, and whether any of them saturated (R220 step 3). -/
def buildSat (n : Nat) (f : Nat → BitVec n × Bool) : Quad × Bool :=
  (build n fun k => (f k).1, anyBelow (fun k => (f k).2) (128 / n))

/-! ## Shifts of one element (42_int_cmp_logic_shift.md R318): the count is the element of vB modulo the width -/

/-- The shift count of an element. -/
def shiftCount {n : Nat} (b : BitVec n) : Nat := b.toNat % n

/-- All ones where `p` holds, else zeros: a true or false compare element (R301). -/
def truth (n : Nat) (p : Bool) : BitVec n := if p then BitVec.allOnes n else 0

/-! ## The register files -/

/-- VR[r] (10_state.md R41). -/
def State.readV (s : State) (r : VReg) : Quad := s.vr.get r

/-- VR[r] <- q (10_state.md R41). -/
def State.writeV (s : State) (r : VReg) (q : Quad) : State := { s with vr := s.vr.set r.val q r.isLt }

/-- GPR[r] (10_state.md R58). -/
def State.readG (s : State) (r : GReg) : Word := s.gpr.get r

/-- GPR[r] <- w (45_vscr_control.md R483). -/
def State.writeG (s : State) (r : GReg) (w : Word) : State := { s with gpr := s.gpr.set r.val w r.isLt }

/-- The contents of rA, or 0 where the rA field is 0 (20_memory.md R94). -/
def State.baseG (s : State) (rA : GReg) : Word := if rA = 0 then 0 else s.readG rA

end Sys2Proof.Machine
end

