-- ==== Sys2Proof/Machine/Flags.lean ====
section
/-! DEFINITION. Status bits: the fields of MSR, VSCR with its sticky SAT, and CR field 6 (10_state.md R44 to R65; 42 R301; 43 R378). -/
namespace Sys2Proof.Machine

/-! ## MSR fields (10_state.md R60) -/

/-- MSR[VEC], bit 6: AltiVec available (R62). -/
def State.vec (s : State) : Bool := wordBit s.msr 6
/-- MSR[ILE], bit 15: the byte order after an exception (R64). -/
def State.ile (s : State) : Bool := wordBit s.msr 15
/-- MSR[PR], bit 17: user level (R63). -/
def State.pr (s : State) : Bool := wordBit s.msr 17
/-- MSR[IP], bit 25: the exception prefix (R65). -/
def State.ip (s : State) : Bool := wordBit s.msr 25
/-- MSR[DR], bit 27: data address translation (R63). -/
def State.dr (s : State) : Bool := wordBit s.msr 27
/-- MSR[LE], bit 31: little-endian mode (R64). -/
def State.le (s : State) : Bool := wordBit s.msr 31

/-! ## VSCR (10_state.md R44 to R51) -/

/-- NJ as a bit of VSCR, bit 15 (R44). -/
def njMask : Word := 0x00010000
/-- SAT as a bit of VSCR, bit 31 (R44). -/
def satMask : Word := 0x00000001
/-- The reserved bits of VSCR, 0-14 and 16-30 (R44). -/
def vscrReserved : Word := 0xFFFEFFFE

/-- VSCR as every rule sees it: where Java mode is not implemented NJ "is always read back as a 1" (R45, 43_float.md R364,
45_vscr_control.md R480, R481). Log 7. -/
def State.vscrValue (s : State) : Word := if Config.javaImplemented then s.vscr else s.vscr ||| njMask

/-- VSCR[NJ] (R45). -/
def State.nj (s : State) : Bool := wordBit s.vscrValue 15

/-- VSCR[SAT] (R46). -/
def State.sat (s : State) : Bool := wordBit s.vscrValue 31

/-- VSCR[SAT] <- VSCR[SAT] | sat (R46). -/
def State.orSat (s : State) (sat : Bool) : State := if sat then { s with vscr := s.vscr ||| satMask } else s

/-- VR[r] <- D, then VSCR[SAT] <- VSCR[SAT] | sat: steps 4 and 5 of a saturating instruction (41_int_arith.md R220). -/
def State.writeSat (s : State) (r : VReg) (d : Quad × Bool) : State := (s.writeV r d.1).orSat d.2

/-! ## CR field 6 (10_state.md R56) -/

/-- The mask of CR bits 24 to 27 (R55). -/
def cr6Mask : Word := 0x000000F0

/-- CR[24:27] <- f (R55). -/
def State.writeCR6 (s : State) (f : BitVec 4) : State :=
  { s with cr := (s.cr &&& ~~~cr6Mask) ||| (f.setWidth 32 <<< 4) }

/-- CR field 6. -/
def State.cr6 (s : State) : BitVec 4 := s.cr.extractLsb' 4 4

/-- t || 0 || f || 0 for a compare result D (42_int_cmp_logic_shift.md R301). -/
def compareCR6 (d : Quad) : BitVec 4 :=
  if d = BitVec.allOnes 128 then 8 else if d = 0 then 2 else 0

/-- 0 || 0 || ib || 0 for the bounds compare, ib = 1 where D is zero (43_float.md R378). -/
def boundsCR6 (d : Quad) : BitVec 4 := if d = 0 then 2 else 0

/-- VR[r] <- D, and with Rc = 1 CR[24:27] <- t || 0 || f || 0 (42_int_cmp_logic_shift.md R300, R301). -/
def State.writeCompare (s : State) (r : VReg) (rc : Bool) (d : Quad) : State :=
  if rc then (s.writeV r d).writeCR6 (compareCR6 d) else s.writeV r d

/-- The same for the bounds compare (43_float.md R378). -/
def State.writeBounds (s : State) (r : VReg) (rc : Bool) (d : Quad) : State :=
  if rc then (s.writeV r d).writeCR6 (boundsCR6 d) else s.writeV r d

end Sys2Proof.Machine
end

