-- ==== Sys2Proof/Machine/Ops.lean ====
section
/-! DEFINITION. The shared operations: memory, addresses and byte order, undefined values, taking an exception and returning from
one, and the frame in which every instruction executes (20_memory.md; 60_exceptions.md; 00_scope.md R14, R15, R19). -/
namespace Sys2Proof.Machine

/-! ## Memory (20_memory.md R90, R122): cells in rising order of address, none of them holding what an unlisted byte reads as -/

/-- What a byte that memory does not list reads as. DESIGN CHOICE. Log 4. -/
def unlistedByte : Byte := 0

/-- The byte at an address. -/
def Memory.read : List Host.Cell → Nat → Byte
  | [], _ => unlistedByte
  | (k, c) :: rest, a => if a = k then c else Memory.read rest a

/-- Memory with the byte at an address replaced, in canonical form. -/
def Memory.write : List Host.Cell → Nat → Byte → List Host.Cell
  | [], a, b => if b = unlistedByte then [] else [(a, b)]
  | (k, c) :: rest, a, b =>
    if a < k then (if b = unlistedByte then (k, c) :: rest else (a, b) :: (k, c) :: rest)
    else if a = k then (if b = unlistedByte then rest else (a, b) :: rest)
    else (k, c) :: Memory.write rest a b

/-- The cells rise strictly from `lo` up, lie below 2^32, and hold no byte an unlisted address reads as. -/
def Memory.wfFrom : Nat → List Host.Cell → Bool
  | _, [] => true
  | lo, (k, c) :: rest => decide (lo ≤ k) && decide (k < 2 ^ 32) && (c != unlistedByte) && Memory.wfFrom (k + 1) rest

/-- The canonical form of memory. -/
def Memory.wf (m : List Host.Cell) : Bool := Memory.wfFrom 0 m

/-- Mem[a] (20_memory.md R90). -/
def State.byte (s : State) (a : Word) : Byte := Memory.read s.mem a.toNat

/-- Mem[a] <- b. -/
def State.setByte (s : State) (a : Word) (b : Byte) : State := { s with mem := Memory.write s.mem a.toNat b }

/-- MemRead(a, n) as a number: the byte at the lowest address is the most significant; addresses modulo 2^32
(00_scope.md R14, R15). -/
def State.loadNat (s : State) (a : Word) : Nat → Nat
  | 0 => 0
  | n + 1 => s.loadNat a n * 256 + (s.byte (a + BitVec.ofNat 32 n)).toNat

/-- MemWrite(a, n, v): the byte at address a + j is byte j of the n-byte string v, counted from the most significant
(00_scope.md R14, R15); `m` bytes, the last of them first. -/
def State.storeNat (s : State) (a : Word) (n v : Nat) : Nat → State
  | 0 => s
  | m + 1 => (s.setByte (a + BitVec.ofNat 32 m) (BitVec.ofNat 8 (v / 256 ^ (n - 1 - m)))).storeNat a n v m

/-- MemRead(a, n) as a bit string. -/
def State.memRead (s : State) (a : Word) (n : Nat) : BitVec (8 * n) := BitVec.ofNat (8 * n) (s.loadNat a n)

/-- MemWrite(a, n, v). -/
def State.memWrite (s : State) (a : Word) (n : Nat) (v : BitVec (8 * n)) : State := s.storeNat a n v.toNat n

/-! ## Addresses and byte order (20_memory.md R94, R96, R106) -/

/-- (rA|0) + (rB), modulo 2^32 (R94). -/
def State.eaSum (s : State) (rA rB : GReg) : Word := s.baseG rA + s.readG rB

/-- The effective address of an access of `n` bytes, n a power of two: the low-order bits are taken as zero (R96). -/
def State.ea (s : State) (n : Nat) (rA rB : GReg) : Word :=
  s.eaSum rA rB &&& ~~~(BitVec.ofNat 32 (n - 1))

/-- The little-endian modification of the address of an access of `n` bytes (R106, Table 3-2): XOR with 8 - n. -/
def State.munge (s : State) (n : Nat) (a : Word) : Word := if s.le then a ^^^ BitVec.ofNat 32 (8 - n) else a

/-- The element of a register, of `n` bytes, that is paired with the memory operand at effective address `a`: the m-th from the
left in big-endian mode, the m-th from the right in little-endian mode (R105, R109). -/
def State.lane (s : State) (n : Nat) (a : Word) : Nat :=
  if s.le then 16 / n - 1 - a.toNat % 16 / n else a.toNat % 16 / n

/-! ## Undefined values (00_scope.md R19 (a)) -/

/-- The next undefined quad word. -/
def State.undefQuad (s : State) : Quad := Config.undefinedQuad s.draws

/-- The next undefined word. -/
def State.undefWord (s : State) : Word := Config.undefinedWord s.draws

/-- The draw is taken: the next one is a new value. -/
def State.drawn (s : State) : State := { s with draws := s.draws + 1 }

/-! ## Exceptions (60_exceptions.md) -/

/-- The MSR bits SRR1 saves and rfi restores: 0, 5-9, 16-31 (R515, R532). -/
def savedMask : Word := 0x87C0FFFF
/-- The MSR bits an entry clears: VEC, POW, EE, PR, FP, FE0, SE, BE, FE1, IR, DR, RI, LE (R514). -/
def clearedMask : Word := 0x0204EF33
/-- The offset of the AltiVec unavailable vector (R513). -/
def vectorUnavailable : Word := 0x00000F20
/-- The offset of the program vector. PRESUMED (R524, G13). Log 13. -/
def vectorProgram : Word := 0x00000700
/-- The offset of the DSI vector. PRESUMED (R518, G12). Log 21. -/
def vectorDSI : Word := 0x00000300
/-- SRR1 bit 12: illegal instruction. PRESUMED (R524, G13). Log 13. -/
def causeIllegal : Word := 0x00080000
/-- SRR1 bit 13: privileged instruction. PRESUMED (R524, G13). Log 13. -/
def causePrivileged : Word := 0x00040000

/-- VectorBase(MSR[IP]). PRESUMED values (R513, D11). Log 11. -/
def State.vectorBase (s : State) : Word := if s.ip then 0xFFF00000 else 0

/-- MSR after an entry (R514): the mask cleared, ILE copied into LE. -/
def entryMSR (msr : Word) : Word := (msr &&& ~~~clearedMask) ||| ((msr >>> 16) &&& 1)

/-- Taking an exception at the instruction at pc (R514 to R517): SRR0 <- CIA, SRR1 <- the saved MSR bits with the cause bits, MSR
and pc as said. Nothing else changes. -/
def State.takeException (s : State) (vector cause : Word) : State :=
  { s with
    srr0 := s.pc
    srr1 := (s.msr &&& savedMask) ||| cause
    msr := entryMSR s.msr
    pc := s.vectorBase + vector }

/-- The AltiVec unavailable exception (R517). -/
def State.takeUnavailable (s : State) : State := s.takeException vectorUnavailable 0

/-- The program exception with the cause "illegal instruction" (R524). -/
def State.takeIllegal (s : State) : State := s.takeException vectorProgram causeIllegal

/-- The program exception with the cause "supervisor-level instruction" (R524, R532). -/
def State.takePrivileged (s : State) : State := s.takeException vectorProgram causePrivileged

/-- The DSI exception for an access at effective address `ea` (R518). The spec does not say what a DSI leaves in SRR1, DAR, DSISR and
MSR. PRESUMED, the family's entry: SRR0 and MSR as at every entry, SRR1 the saved MSR bits with no cause bit, DAR <- ea; DSISR is
undefined. Log 21. -/
def State.takeDSI (s : State) (ea : Word) : State :=
  { (s.takeException vectorDSI 0) with dar := ea, dsisr := s.undefWord, draws := s.draws + 1 }

/-- The return from an exception in supervisor mode (R532): the MSR bits SRR1 holds, and pc from SRR0. -/
def State.returnFromException (s : State) : State :=
  { s with
    msr := (s.msr &&& ~~~savedMask) ||| (s.srr1 &&& savedMask)
    pc := s.srr0 &&& 0xFFFFFFFC }

/-- P_DIRECT_STORE(EA): whether the address lies in a direct-store segment; constantly false (20_memory.md R121, D9). Log 21. -/
def directStore (_ea : Word) : Bool := false

/-! ## The frame of an instruction -/

/-- pc <- (pc + 4) mod 2^32 (10_state.md R59). -/
def State.advance (s : State) : State := { s with pc := s.pc + 4 }

/-- A non-stream AltiVec instruction (60_exceptions.md R512; 40 R181; 41 R220; 42 R300; 43 R360; 44 R420; 45 R482): with
MSR[VEC] = 0 the exception and nothing else, else its own effect `t` and pc + 4. -/
def vectorStep (s t : State) : Out :=
  if s.vec then .next t.advance else .next s.takeUnavailable

/-- A vector load or store at effective address `ea` (40_load_store.md R181; 60_exceptions.md R518, R530 group D): AltiVec
unavailable first, then DSI, which leaves the state `d` (R520), else its own effect `t` and pc + 4. -/
def accessStep (s : State) (ea : Word) (d t : State) : Out :=
  if s.vec then (if directStore ea then .next (d.takeDSI ea) else .next t.advance) else .next s.takeUnavailable

end Sys2Proof.Machine
end

