-- ==== Sys2Proof/Machine/DataStream.lean ====
section
/-! DEFINITION. Data streams: hints that change no register but pc (46_data_stream.md R490 to R507), and the prefetch engine, which acts
on the slots by itself after every step (R494; log 23). -/
namespace Sys2Proof.Machine

/-- The stream that a touch instruction describes: size, count and stride from rB, a zero field standing for 32, 256 and +32768
(R491, R502). -/
def makeStream (kind : StreamKind) (transient pr : Bool) (ea desc : Word) : Stream :=
  let size := desc.toNat / 16777216 % 32
  let count := desc.toNat / 65536 % 256
  let stride := (desc.extractLsb' 0 16).toInt
  { ea := ea
    size := if size = 0 then 32 else size
    count := if count = 0 then 256 else count
    stride := if stride = 0 then 32768 else stride
    transient := transient
    kind := kind
    pr := pr
    progress := 0 }

/-- slot[STRM] <- the new stream; with rA field 0 the form is invalid and nothing happens (R492, R493, D20). -/
def State.touch (s : State) (kind : StreamKind) (transient : Bool) (strm : StreamId) (rA rB : GReg) : State :=
  if rA = 0 then s
  else { s with streams := s.streams.set strm.val (some (makeStream kind transient s.pr (s.readG rA) (s.readG rB))) strm.isLt }

/-- slot[STRM] <- Empty (R494, R506). -/
def State.stopStream (s : State) (strm : StreamId) : State := { s with streams := s.streams.set strm.val none strm.isLt }

/-- All four slots <- Empty (R494, R507). -/
def State.stopAllStreams (s : State) : State := { s with streams := Vector.replicate 4 none }

/-- Whether prefetching of slot `k` is enabled: it holds a stream, MSR[DR] = 1 and MSR[PR] is what it was (R500). -/
def State.streamEnabled (s : State) (k : StreamId) : Bool :=
  match s.streams.get k with
  | some st => s.dr && (s.pr == st.pr)
  | none => false

/-! ## The addresses a stream touches (R495) -/

/-- BlockAddr_n of a stream, modulo 2^32 (R495). -/
def Stream.blockAddr (st : Stream) (n : Nat) : Word := st.ea + BitVec.ofInt 32 (n * st.stride)

/-- The addresses of the blocks of a stream: BlockAddr_n for n = 0 to count - 1 (R495). -/
def Stream.blockAddrs (st : Stream) : List Word := (List.range st.count).map st.blockAddr

/-- The addresses of the 16 * size bytes that the block at `a` covers, from `a` upward (R495). -/
def Stream.blockBytes (st : Stream) (a : Word) : List Word := (List.range (16 * st.size)).map fun j => a + BitVec.ofNat 32 j

/-- Whether a stream has a block that covers the byte at `a` (R495). -/
def Stream.covers (st : Stream) (a : Word) : Bool := st.blockAddrs.any fun b => (st.blockBytes b).contains a

/-- CacheBlocksFetched for the block at `a`, on a cache with blocks of `line` bytes: the fewest that hold all its bytes (R495). The
model has no cache and fixes no `line` (00_scope.md R9). -/
def Stream.cacheBlocksFetched (st : Stream) (line : Nat) (a : Word) : Nat := (16 * st.size + a.toNat % line + (line - 1)) / line

/-! ## The prefetch engine (R494) -/

/-- A stream of which `u` more units have been prefetched; none once all its units have been: it has completed (R494). -/
def Stream.prefetched (st : Stream) (u : Nat) : Option Stream :=
  if st.progress + u < st.count then some { st with progress := st.progress + u } else none

/-- What slot `k` holds after the engine has acted: nothing where it held nothing, and nothing where the free value ends the stream;
else the stream, with more units prefetched if it is enabled and none if it is suspended (R494, R500). -/
def State.slotAfterPrefetch (s : State) (k : StreamId) : Option Stream :=
  match s.streams.get k with
  | none => none
  | some st =>
    match Config.streamFate s.draws k.val with
    | none => none
    | some u => if s.streamEnabled k then st.prefetched u else some st

/-- The engine acts on the slots, and on nothing else (R494, R497). Where no slot holds a stream there is nothing to draw. -/
def State.prefetch (s : State) : State :=
  if s.streams = Vector.replicate 4 none then s
  else { s with streams := Vector.ofFn s.slotAfterPrefetch, draws := s.draws + 1 }

/-! ## The instructions -/

/-- `dst`: data stream touch (R502). -/
def execDst (strm : StreamId) (rA rB : GReg) (s : State) : Out :=
  .next (s.touch .load false strm rA rB).advance

/-- `dstt`: data stream touch transient (R503). -/
def execDstt (strm : StreamId) (rA rB : GReg) (s : State) : Out :=
  .next (s.touch .load true strm rA rB).advance

/-- `dstst`: data stream touch for store (R504). -/
def execDstst (strm : StreamId) (rA rB : GReg) (s : State) : Out :=
  .next (s.touch .store false strm rA rB).advance

/-- `dststt`: data stream touch for store transient (R505). -/
def execDststt (strm : StreamId) (rA rB : GReg) (s : State) : Out :=
  .next (s.touch .store true strm rA rB).advance

/-- `dss`: data stream stop (R506). -/
def execDss (strm : StreamId) (s : State) : Out :=
  .next (s.stopStream strm).advance

/-- `dssall`: data stream stop all (R507). -/
def execDssall (s : State) : Out :=
  .next s.stopAllStreams.advance

end Sys2Proof.Machine
end

