-- ==== Sys2Proof/Machine/FloatArith.lean ====
section
/-! DEFINITION. Single-precision numbers and what one element of a floating-point instruction computes (43_float.md R361 to R396).
A finite number is held exactly as an integer count of 2^-149, the smallest denormalized magnitude. -/
namespace Sys2Proof.Machine

/-! ## The format (R361) -/

/-- The sign bit. -/
def fpSign (w : Word) : Bool := wordBit w 0
/-- The exponent field. -/
def fpExp (w : Word) : Nat := (w.extractLsb' 23 8).toNat
/-- The fraction field. -/
def fpFrac (w : Word) : Nat := (w.extractLsb' 0 23).toNat
/-- A NaN, quiet or signaling. -/
def fpIsNaN (w : Word) : Bool := fpExp w == 255 && fpFrac w != 0
/-- An infinity. -/
def fpIsInf (w : Word) : Bool := fpExp w == 255 && fpFrac w == 0
/-- A zero of either sign. -/
def fpIsZero (w : Word) : Bool := fpExp w == 0 && fpFrac w == 0
/-- A denormalized number. -/
def fpIsDenorm (w : Word) : Bool := fpExp w == 0 && fpFrac w != 0

/-- The magnitude in units of 2^-149; of an infinity, a number above every finite one. PRESUMED: the IEEE-754 value formula (G2,
log 32). -/
def fpMag (w : Word) : Nat := if fpExp w = 0 then fpFrac w else (8388608 + fpFrac w) * 2 ^ (fpExp w - 1)

/-- The value in units of 2^-149. -/
def fpVal (w : Word) : Int := if fpSign w then -(fpMag w : Int) else fpMag w

/-- The word with sign `s` and the 31 bits below it `m`. -/
def fpPack (s : Bool) (m : Nat) : Word := BitVec.ofNat 32 ((if s then 2147483648 else 0) + m)
/-- A zero of sign `s`. -/
def fpZero (s : Bool) : Word := fpPack s 0
/-- An infinity of sign `s`. -/
def fpInf (s : Bool) : Word := fpPack s 0x7F800000
/-- The QNaN of an invalid operation (R369). -/
def fpQNaN : Word := 0x7FC00000
/-- 1.0. -/
def fpOne : Word := 0x3F800000
/-- `quiet(w)`: bit 9 set (R361, R368). -/
def fpQuiet (w : Word) : Word := w ||| 0x00400000
/-- The number with its sign bit inverted. -/
def fpNeg (w : Word) : Word := w ^^^ 0x80000000

/-- `flush_in(w, nj)`: with NJ = 1 a denormalized operand is replaced by the zero of its sign (R363, D17, log 28). -/
def flushIn (nj : Bool) (w : Word) : Word := if nj && fpIsDenorm w then fpZero (fpSign w) else w

/-! ## Rounding (R366) -/

/-- `round_half_even(num / den)`, den positive. -/
def roundHalfEven (num den : Nat) : Nat :=
  let q := num / den
  let r := num % den
  if 2 * r < den then q else if den < 2 * r then q + 1 else if q % 2 = 0 then q else q + 1

/-- `RndToNearFP32(x, nj, z)` for the x of sign `s` and magnitude num / den in units of 2^-149, den positive. -/
def roundNear (nj z s : Bool) (num den : Nat) : Word :=
  if num = 0 then fpZero z
  else if num < 8388608 * den then
    if nj then fpZero s else fpPack s (roundHalfEven num den)
  else
    let l := Nat.log2 (num / den)
    let q := roundHalfEven num (den * 2 ^ (l - 23))
    let l' := if q = 16777216 then l + 1 else l
    let q' := if q = 16777216 then 8388608 else q
    if 276 < l' then fpInf s else fpPack s ((l' - 22) * 8388608 + (q' - 8388608))

/-- `RndToNearFP32` of the exact value num / den in units of 2^-149. -/
def roundVal (nj z : Bool) (num : Int) (den : Nat) : Word := roundNear nj z (decide (num < 0)) num.natAbs den

/-! ## Arithmetic (R368 to R375): operands are flushed first; the first NaN operand, quieted, is the result -/

/-- The result where no operand is a NaN is `r`; else the first NaN of a, b, quieted (R368, D18). Log 29. -/
def fpNaN2 (a b r : Word) : Word := if fpIsNaN a then fpQuiet a else if fpIsNaN b then fpQuiet b else r

/-- The same for three operands, in the order a, b, c (R368, D18). Log 29. -/
def fpNaN3 (a b c r : Word) : Word := fpNaN2 a b (if fpIsNaN c then fpQuiet c else r)

/-- a + b of flushed operands that are no NaN (R370, R369). -/
def fpAddCore (nj : Bool) (a b : Word) : Word :=
  if fpIsInf a && fpIsInf b && (fpSign a != fpSign b) then fpQNaN
  else if fpIsInf a then a
  else if fpIsInf b then b
  else roundVal nj (a == fpZero true && b == fpZero true) (fpVal a + fpVal b) 1

/-- `vaddfp` of one element (R370). -/
def fpAdd (nj : Bool) (a b : Word) : Word :=
  fpNaN2 (flushIn nj a) (flushIn nj b) (fpAddCore nj (flushIn nj a) (flushIn nj b))

/-- a - b of flushed operands that are no NaN (R371, R369). -/
def fpSubCore (nj : Bool) (a b : Word) : Word :=
  if fpIsInf a && fpIsInf b && (fpSign a == fpSign b) then fpQNaN
  else if fpIsInf a then a
  else if fpIsInf b then fpNeg b
  else roundVal nj (a == fpZero true && b == fpZero false) (fpVal a - fpVal b) 1

/-- `vsubfp` of one element (R371). -/
def fpSub (nj : Bool) (a b : Word) : Word :=
  fpNaN2 (flushIn nj a) (flushIn nj b) (fpSubCore nj (flushIn nj a) (flushIn nj b))

/-- The sign of the product a * c. -/
def fpProdSign (a c : Word) : Bool := fpSign a != fpSign c

/-- infinity * 0, which is invalid (R369). -/
def fpProdInvalid (a c : Word) : Bool := (fpIsInf a && fpIsZero c) || (fpIsZero a && fpIsInf c)

/-- Whether the product is a zero of sign 1. -/
def fpProdNegZero (a c : Word) : Bool := fpProdSign a c && (fpIsZero a || fpIsZero c)

/-- a * c + b of flushed operands that are no NaN, rounded once (R372, R369). -/
def fpMulAddCore (nj : Bool) (a b c : Word) : Word :=
  if fpProdInvalid a c then fpQNaN
  else if fpIsInf a || fpIsInf c then
    if fpIsInf b && (fpSign b != fpProdSign a c) then fpQNaN else fpInf (fpProdSign a c)
  else if fpIsInf b then b
  else roundVal nj (fpProdNegZero a c && b == fpZero true) (fpVal a * fpVal c + fpVal b * 2 ^ 149) (2 ^ 149)

/-- `vmaddfp` of one element: a from vA, b from vB, c from vC (R372). -/
def fpMulAdd (nj : Bool) (a b c : Word) : Word :=
  fpNaN3 (flushIn nj a) (flushIn nj b) (flushIn nj c) (fpMulAddCore nj (flushIn nj a) (flushIn nj b) (flushIn nj c))

/-- -(a * c - b) of flushed operands that are no NaN, rounded once (R373, R369). -/
def fpNegMulSubCore (nj : Bool) (a b c : Word) : Word :=
  if fpProdInvalid a c then fpQNaN
  else if fpIsInf a || fpIsInf c then
    if fpIsInf b && (fpSign b == fpProdSign a c) then fpQNaN else fpInf (!fpProdSign a c)
  else if fpIsInf b then b
  else fpNeg (roundVal nj (fpProdNegZero a c && b == fpZero false) (fpVal a * fpVal c - fpVal b * 2 ^ 149) (2 ^ 149))

/-- `vnmsubfp` of one element (R373). -/
def fpNegMulSub (nj : Bool) (a b c : Word) : Word :=
  fpNaN3 (flushIn nj a) (flushIn nj b) (flushIn nj c) (fpNegMulSubCore nj (flushIn nj a) (flushIn nj b) (flushIn nj c))

/-- `vmaxfp` of one element (R374). -/
def fpMax (nj : Bool) (x y : Word) : Word :=
  let a := flushIn nj x
  let b := flushIn nj y
  fpNaN2 a b (if fpIsZero a && fpIsZero b then fpZero (fpSign a && fpSign b) else if fpVal b ≤ fpVal a then a else b)

/-- `vminfp` of one element (R375). -/
def fpMin (nj : Bool) (x y : Word) : Word :=
  let a := flushIn nj x
  let b := flushIn nj y
  fpNaN2 a b (if fpIsZero a && fpIsZero b then fpZero (fpSign a || fpSign b) else if fpVal a < fpVal b then a else b)

/-! ## Compares (R365, R376 to R379): false where an operand is a NaN -/

/-- Neither flushed operand is a NaN, and their values are related by `r`. -/
def fpCompare (r : Int → Int → Bool) (nj : Bool) (x y : Word) : Bool :=
  let a := flushIn nj x
  let b := flushIn nj y
  !fpIsNaN a && !fpIsNaN b && r (fpVal a) (fpVal b)

/-- a = b (R376). -/
def fpEq (nj : Bool) (a b : Word) : Bool := fpCompare (fun p q => decide (p = q)) nj a b

/-- a >= b (R377). -/
def fpGe (nj : Bool) (a b : Word) : Bool := fpCompare (fun p q => decide (q ≤ p)) nj a b

/-- a > b (R379). -/
def fpGt (nj : Bool) (a b : Word) : Bool := fpCompare (fun p q => decide (q < p)) nj a b

/-- `vcmpbfp` of one element: (not a <= b) || (not a >= -b) || 0 (R378). -/
def fpBounds (nj : Bool) (a b : Word) : Word :=
  (if fpCompare (fun p q => decide (p ≤ q)) nj a b then 0 else 0x80000000) |||
  (if fpCompare (fun p q => decide (-q ≤ p)) nj a b then 0 else 0x40000000)

/-! ## Rounding to an integer and conversion (R385 to R392) -/

/-- The rounding of vrfin, vrfiz, vrfip and vrfim. -/
inductive RoundMode where
  /-- To nearest, ties to even. -/
  | nearest
  /-- Toward zero. -/
  | zero
  /-- Toward plus infinity. -/
  | up
  /-- Toward minus infinity. -/
  | down
  deriving DecidableEq, Repr

/-- The magnitude of the integer that the number of sign `s` and magnitude `num / 2^149` rounds to. -/
def roundMag (mode : RoundMode) (s : Bool) (num : Nat) : Nat :=
  match mode with
  | .nearest => roundHalfEven num (2 ^ 149)
  | .zero => num / 2 ^ 149
  | .up => if s then num / 2 ^ 149 else (num + (2 ^ 149 - 1)) / 2 ^ 149
  | .down => if s then (num + (2 ^ 149 - 1)) / 2 ^ 149 else num / 2 ^ 149

/-- Rounding to a floating-point integer, a zero keeping the sign of the operand (R385 to R388). -/
def fpRoundInt (mode : RoundMode) (nj : Bool) (w : Word) : Word :=
  let x := flushIn nj w
  if fpIsNaN x then fpQuiet x
  else if fpIsInf x || fpIsZero x then x
  else roundNear false (fpSign x) (fpSign x) (roundMag mode (fpSign x) (fpMag x) * 2 ^ 149) 1

/-- The integer n rounded to single precision, then divided by 2^uimm exactly (R389, R390). -/
def fpOfInt (_nj : Bool) (n : Int) (uimm : Nat) : Word := roundVal false false (n * 2 ^ 149) (2 ^ uimm)

/-- Whether a conversion is to an unsigned or to a signed word. -/
inductive IntKind where
  /-- vctuxs. -/
  | unsigned
  /-- vctsxs. -/
  | signed
  deriving DecidableEq, Repr

/-- Saturation to a word of the kind. -/
def satWord (kind : IntKind) (t : Int) : Word × Bool :=
  match kind with
  | .unsigned => satUnsigned 32 t
  | .signed => satSigned 32 t

/-- The number times 2^uimm, truncated toward zero and then saturated (R391, R392, D19; log 30). A NaN gives 0 and does not
saturate; an infinity saturates as an integer out of range of its sign does (R394). -/
def fpToInt (kind : IntKind) (nj : Bool) (w : Word) (uimm : Nat) : Word × Bool :=
  let x := flushIn nj w
  if fpIsNaN x then (0, false)
  else
    let t : Nat := fpMag x * 2 ^ uimm / 2 ^ 149
    satWord kind (if fpSign x then -(t : Int) else t)

/-! ## Estimates (R380 to R384): the free value of Config where the spec's bound permits it, else a value that meets the bound
(D6, log 10) -/

/-- A candidate if it is permitted, else the default. -/
def estimate (permitted : Word → Bool) (candidate default : Word) : Word := if permitted candidate then candidate else default

/-- The values that P_EST_RECIP permits for a finite nonzero x (R381), M = |x| and N = |y| in units of 2^-149: a finite y is within
1/4096 of 1/x, an infinity is the overflow of such an estimate, and with NJ = 1 a zero is the underflow of one. -/
def recipPermitted (nj : Bool) (x y : Word) : Bool :=
  (fpSign y == fpSign x) && !fpIsNaN y &&
    (if fpIsInf y then decide (fpMag x * 4096 ≤ 2 ^ 21 * 4097)
     else if fpIsZero y then nj && decide (2 ^ 275 * 4095 < fpMag x * 4096)
     else !(nj && fpIsDenorm y) && decide (fpMag y * fpMag x ≤ 2 ^ 298 + 2 ^ 286) && decide (2 ^ 298 - 2 ^ 286 ≤ fpMag y * fpMag x))

/-- `vrefp` of element `k` (R381, R393). -/
def recipEstimate (draw k : Nat) (nj : Bool) (w : Word) : Word :=
  let x := flushIn nj w
  if fpIsNaN x then fpQuiet x
  else if fpIsInf x then fpZero (fpSign x)
  else if fpIsZero x then fpInf (fpSign x)
  else estimate (recipPermitted nj x) (Config.estRecip draw k x nj) (roundNear nj false (fpSign x) (2 ^ 298) (fpMag x))

/-- The integer square root of `n` from `r` on, the lower `k` bits of the root still to be found. -/
def rootFrom (n : Nat) : Nat → Nat → Nat
  | 0, r => r
  | k + 1, r => rootFrom n k (if (r + 2 ^ k) * (r + 2 ^ k) ≤ n then r + 2 ^ k else r)

/-- The integer square root, rounded down. -/
def root (n : Nat) : Nat := rootFrom n (Nat.log2 n / 2 + 1) 0

/-- The values that P_EST_RSQRT permits for a finite positive x: positive and within 1/4096 of 1/sqrt(x), said of the squares
(R382). -/
def rsqrtPermitted (x y : Word) : Bool :=
  !fpSign y && !fpIsNaN y && !fpIsInf y && decide (4095 ^ 2 * 2 ^ 447 ≤ 4096 ^ 2 * (fpMag y ^ 2 * fpMag x)) &&
    decide (4096 ^ 2 * (fpMag y ^ 2 * fpMag x) ≤ 4097 ^ 2 * 2 ^ 447)

/-- `vrsqrtefp` of element `k` (R382, R393). -/
def rsqrtEstimate (draw k : Nat) (nj : Bool) (w : Word) : Word :=
  let x := flushIn nj w
  if fpIsNaN x then fpQuiet x
  else if fpIsZero x then fpInf (fpSign x)
  else if fpSign x then fpQNaN
  else if fpIsInf x then fpZero false
  else estimate (rsqrtPermitted x) (Config.estRsqrt draw k x nj) (roundNear nj false false (root (2 ^ 447 / fpMag x)) 1)

/-- 2^256 * 2^(f / 2^n), where n counts the low bits of `f` that are used: each bit is one square root, 2^(0.b..) being
sqrt(2^b * 2^(0...)). Rounded down, or up at every root. -/
def exp2Frac (up : Bool) (f : Nat) : Nat → Nat
  | 0 => 2 ^ 256
  | n + 1 => root ((if f.testBit n then 2 else 1) * exp2Frac up f n * 2 ^ 256) + (if up then 1 else 0)

/-- 2^768 * 2^(e / 2^149), rounded down or up, for e / 2^149 of magnitude below 512; the error is below 2^-240 of it. -/
def exp2Scaled (up : Bool) (e : Int) : Nat :=
  exp2Frac up (e % 2 ^ 149).toNat 149 * 2 ^ (e / 2 ^ 149 + 512).toNat

/-- The values that P_EST_EXP2 permits for a finite nonzero x of value e / 2^149 (R383). From 128 up the result is +infinity, and
below -150 (with NJ = 1, below -126) it is +0. An integral x has its exact power. Otherwise y is what an estimate within 1/16 of
2^x gives when it is rounded; and y is itself within 1/16 of 2^x, but for the overflow and underflow results +infinity and +0, and but
for the smallest denormalized results where no single-precision number is (log 10). The bounds on 2^x lie outside the exact ones by
less than 2^-240 of them, so every value the spec permits is permitted. -/
def exp2Permitted (nj : Bool) (e : Int) (y : Word) : Bool :=
  let lo := exp2Scaled false e * 15
  let hi := exp2Scaled true e * 17
  let noneWithin : Bool := decide (hi / 2 ^ 623 * 2 ^ 623 < lo)
  if 128 * 2 ^ 149 ≤ e then y == fpInf false
  else if e < -150 * 2 ^ 149 ∨ (nj ∧ e < -126 * 2 ^ 149) then y == fpZero false
  else if e % 2 ^ 149 = 0 ∧ -149 * 2 ^ 149 ≤ e then y == roundNear nj false false (exp2Scaled false e) (2 ^ 619)
  else
    decide (roundNear nj false false lo (2 ^ 623) ≤ y) && decide (y ≤ roundNear nj false false hi (2 ^ 623)) &&
      !(nj && fpIsDenorm y) &&
      (fpIsInf y || fpIsZero y || noneWithin || (decide (lo ≤ fpMag y * 2 ^ 623) && decide (fpMag y * 2 ^ 623 ≤ hi)))

/-- A value that P_EST_EXP2 permits: 2^x rounded. -/
def exp2Default (nj : Bool) (e : Int) : Word :=
  if 128 * 2 ^ 149 ≤ e then fpInf false
  else if e < -150 * 2 ^ 149 ∨ (nj ∧ e < -126 * 2 ^ 149) then fpZero false
  else roundNear nj false false (exp2Scaled false e) (2 ^ 619)

/-- `vexptefp` of element `k` (R383). -/
def exp2Estimate (draw k : Nat) (nj : Bool) (w : Word) : Word :=
  let x := flushIn nj w
  if fpIsNaN x then fpQuiet x
  else if fpIsInf x then (if fpSign x then fpZero false else x)
  else if fpIsZero x then fpOne
  else estimate (exp2Permitted nj (fpVal x)) (Config.estExp2 draw k x nj) (exp2Default nj (fpVal x))

/-- The values that P_EST_LOG2 permits for a finite positive x: finite and within 2^-5 of log2(x), said as
2^(y - 1/32) <= x <= 2^(y + 1/32) (R384). The bounds lie outside the exact ones by less than 2^-240 of them. -/
def log2Permitted (nj : Bool) (x y : Word) : Bool :=
  !fpIsNaN y && decide (fpMag y < 256 * 2 ^ 149) && !(nj && fpIsDenorm y) &&
    decide (exp2Scaled false (fpVal y - 2 ^ 144) ≤ fpMag x * 2 ^ 619) && decide (fpMag x * 2 ^ 619 ≤ exp2Scaled true (fpVal y + 2 ^ 144))

/-- A value that P_EST_LOG2 permits: for x = 2^n * (1 + f), n + f + (11/32) * f * (1 - f), rounded. -/
def log2Default (nj : Bool) (x : Word) : Word :=
  let m := fpMag x
  let l := Nat.log2 m
  let p : Int := 2 ^ l
  let f : Int := m - p
  roundVal nj false (2 ^ 149 * (32 * p * (((l : Int) - 149) * p + f) + 11 * f * (p - f))) (32 * 2 ^ (2 * l))

/-- `vlogefp` of element `k` (R384, R393). -/
def log2Estimate (draw k : Nat) (nj : Bool) (w : Word) : Word :=
  let x := flushIn nj w
  if fpIsNaN x then fpQuiet x
  else if fpIsZero x then fpInf true
  else if fpSign x then fpQNaN
  else if fpIsInf x then x
  else estimate (log2Permitted nj x) (Config.estLog2 draw k x nj) (log2Default nj x)

end Sys2Proof.Machine
end

