-- ==== Sys2Proof/Machine/Float.lean ====
section
/-! DEFINITION. Vector floating point (43_float.md R360 to R401). -/
namespace Sys2Proof.Machine

/-- `vmaddfp`: vector multiply-add floating point (R372). -/
def execVmaddfp (vD vA vB vC : VReg) (s : State) : Out :=
  vectorStep s (s.writeV vD (map3 32 (fpMulAdd s.nj) (s.readV vA) (s.readV vB) (s.readV vC)))

/-- `vnmsubfp`: vector negative multiply-subtract floating point (R373). -/
def execVnmsubfp (vD vA vB vC : VReg) (s : State) : Out :=
  vectorStep s (s.writeV vD (map3 32 (fpNegMulSub s.nj) (s.readV vA) (s.readV vB) (s.readV vC)))

/-- `vaddfp`: vector add floating point (R370). -/
def execVaddfp (vD vA vB : VReg) (s : State) : Out :=
  vectorStep s (s.writeV vD (map2 32 (fpAdd s.nj) (s.readV vA) (s.readV vB)))

/-- `vsubfp`: vector subtract floating point (R371). -/
def execVsubfp (vD vA vB : VReg) (s : State) : Out :=
  vectorStep s (s.writeV vD (map2 32 (fpSub s.nj) (s.readV vA) (s.readV vB)))

/-- `vrefp`: vector reciprocal estimate floating point (R381). -/
def execVrefp (vD vB : VReg) (s : State) : Out :=
  vectorStep s (s.writeV vD (build 32 fun k => recipEstimate s.draws k s.nj (elem 32 k (s.readV vB)))).drawn

/-- `vrsqrtefp`: vector reciprocal square root estimate floating point (R382). -/
def execVrsqrtefp (vD vB : VReg) (s : State) : Out :=
  vectorStep s (s.writeV vD (build 32 fun k => rsqrtEstimate s.draws k s.nj (elem 32 k (s.readV vB)))).drawn

/-- `vexptefp`: vector 2 raised to the exponent estimate floating point (R383). -/
def execVexptefp (vD vB : VReg) (s : State) : Out :=
  vectorStep s (s.writeV vD (build 32 fun k => exp2Estimate s.draws k s.nj (elem 32 k (s.readV vB)))).drawn

/-- `vlogefp`: vector log2 estimate floating point (R384). -/
def execVlogefp (vD vB : VReg) (s : State) : Out :=
  vectorStep s (s.writeV vD (build 32 fun k => log2Estimate s.draws k s.nj (elem 32 k (s.readV vB)))).drawn

/-- `vrfin`: vector round to floating-point integer nearest (R385). -/
def execVrfin (vD vB : VReg) (s : State) : Out :=
  vectorStep s (s.writeV vD (map1 32 (fpRoundInt .nearest s.nj) (s.readV vB)))

/-- `vrfiz`: vector round to floating-point integer toward zero (R386). -/
def execVrfiz (vD vB : VReg) (s : State) : Out :=
  vectorStep s (s.writeV vD (map1 32 (fpRoundInt .zero s.nj) (s.readV vB)))

/-- `vrfip`: vector round to floating-point integer toward plus infinity (R387). -/
def execVrfip (vD vB : VReg) (s : State) : Out :=
  vectorStep s (s.writeV vD (map1 32 (fpRoundInt .up s.nj) (s.readV vB)))

/-- `vrfim`: vector round to floating-point integer toward minus infinity (R388). -/
def execVrfim (vD vB : VReg) (s : State) : Out :=
  vectorStep s (s.writeV vD (map1 32 (fpRoundInt .down s.nj) (s.readV vB)))

/-- `vcfux`: vector convert from unsigned fixed-point word (R389). -/
def execVcfux (vD : VReg) (uimm : BitVec 5) (vB : VReg) (s : State) : Out :=
  vectorStep s (s.writeV vD (map1 32 (fun b => fpOfInt s.nj (ui b) uimm.toNat) (s.readV vB)))

/-- `vcfsx`: vector convert from signed fixed-point word (R390). -/
def execVcfsx (vD : VReg) (uimm : BitVec 5) (vB : VReg) (s : State) : Out :=
  vectorStep s (s.writeV vD (map1 32 (fun b => fpOfInt s.nj (si b) uimm.toNat) (s.readV vB)))

/-- `vctuxs`: vector convert to unsigned fixed-point word saturate (R391). -/
def execVctuxs (vD : VReg) (uimm : BitVec 5) (vB : VReg) (s : State) : Out :=
  vectorStep s (s.writeSat vD (buildSat 32 fun k => fpToInt .unsigned s.nj (elem 32 k (s.readV vB)) uimm.toNat))

/-- `vctsxs`: vector convert to signed fixed-point word saturate (R392). -/
def execVctsxs (vD : VReg) (uimm : BitVec 5) (vB : VReg) (s : State) : Out :=
  vectorStep s (s.writeSat vD (buildSat 32 fun k => fpToInt .signed s.nj (elem 32 k (s.readV vB)) uimm.toNat))

/-- `vmaxfp`: vector maximum floating point (R374). -/
def execVmaxfp (vD vA vB : VReg) (s : State) : Out :=
  vectorStep s (s.writeV vD (map2 32 (fpMax s.nj) (s.readV vA) (s.readV vB)))

/-- `vminfp`: vector minimum floating point (R375). -/
def execVminfp (vD vA vB : VReg) (s : State) : Out :=
  vectorStep s (s.writeV vD (map2 32 (fpMin s.nj) (s.readV vA) (s.readV vB)))

/-- `vcmpeqfp`: vector compare equal-to floating point (R376). -/
def execVcmpeqfp (vD vA vB : VReg) (rc : Bool) (s : State) : Out :=
  vectorStep s (s.writeCompare vD rc (map2 32 (fun a b => truth 32 (fpEq s.nj a b)) (s.readV vA) (s.readV vB)))

/-- `vcmpgefp`: vector compare greater-than-or-equal-to floating point (R377). -/
def execVcmpgefp (vD vA vB : VReg) (rc : Bool) (s : State) : Out :=
  vectorStep s (s.writeCompare vD rc (map2 32 (fun a b => truth 32 (fpGe s.nj a b)) (s.readV vA) (s.readV vB)))

/-- `vcmpgtfp`: vector compare greater-than floating point (R379). -/
def execVcmpgtfp (vD vA vB : VReg) (rc : Bool) (s : State) : Out :=
  vectorStep s (s.writeCompare vD rc (map2 32 (fun a b => truth 32 (fpGt s.nj a b)) (s.readV vA) (s.readV vB)))

/-- `vcmpbfp`: vector compare bounds floating point (R378). -/
def execVcmpbfp (vD vA vB : VReg) (rc : Bool) (s : State) : Out :=
  vectorStep s (s.writeBounds vD rc (map2 32 (fpBounds s.nj) (s.readV vA) (s.readV vB)))

end Sys2Proof.Machine
end

