-- ==== Sys2Proof/Machine/IntArith.lean ====
section
/-! DEFINITION. Vector integer arithmetic (41_int_arith.md R220 to R287). -/
namespace Sys2Proof.Machine

/-- `vmhaddshs`: vector multiply high and add signed half word saturate (R254). -/
def execVmhaddshs (vD vA vB vC : VReg) (s : State) : Out :=
  vectorStep s (s.writeSat vD (buildSat 16 fun k =>
    satSigned 16 (si (elem 16 k (s.readV vA)) * si (elem 16 k (s.readV vB)) / 2 ^ 15 + si (elem 16 k (s.readV vC)))))

/-- `vmhraddshs`: vector multiply high round and add signed half word saturate (R255). -/
def execVmhraddshs (vD vA vB vC : VReg) (s : State) : Out :=
  vectorStep s (s.writeSat vD (buildSat 16 fun k =>
    satSigned 16 ((si (elem 16 k (s.readV vA)) * si (elem 16 k (s.readV vB)) + 0x4000) / 2 ^ 15 + si (elem 16 k (s.readV vC)))))

/-- `vmladduhm`: vector multiply low and add unsigned half word modulo (R256). -/
def execVmladduhm (vD vA vB vC : VReg) (s : State) : Out :=
  vectorStep s (s.writeV vD (map3 16 (fun a b c => modulo 16 (ui a * ui b + ui c)) (s.readV vA) (s.readV vB) (s.readV vC)))

/-- `vmsumubm`: vector multiply sum unsigned byte modulo (R257). -/
def execVmsumubm (vD vA vB vC : VReg) (s : State) : Out :=
  vectorStep s (s.writeV vD (build 32 fun k =>
    modulo 32 (ui (elem 32 k (s.readV vC)) + sumBelow (fun j => ui (elem 8 (4 * k + j) (s.readV vA)) * ui (elem 8 (4 * k + j) (s.readV vB))) 4)))

/-- `vmsummbm`: vector multiply sum mixed-sign byte modulo (R258). vA is the signed factor. -/
def execVmsummbm (vD vA vB vC : VReg) (s : State) : Out :=
  vectorStep s (s.writeV vD (build 32 fun k =>
    modulo 32 (si (elem 32 k (s.readV vC)) + sumBelow (fun j => si (elem 8 (4 * k + j) (s.readV vA)) * ui (elem 8 (4 * k + j) (s.readV vB))) 4)))

/-- `vmsumuhm`: vector multiply sum unsigned half word modulo (R259). -/
def execVmsumuhm (vD vA vB vC : VReg) (s : State) : Out :=
  vectorStep s (s.writeV vD (build 32 fun k =>
    modulo 32 (ui (elem 32 k (s.readV vC)) + sumBelow (fun j => ui (elem 16 (2 * k + j) (s.readV vA)) * ui (elem 16 (2 * k + j) (s.readV vB))) 2)))

/-- `vmsumuhs`: vector multiply sum unsigned half word saturate (R260). -/
def execVmsumuhs (vD vA vB vC : VReg) (s : State) : Out :=
  vectorStep s (s.writeSat vD (buildSat 32 fun k =>
    satUnsigned 32 (ui (elem 32 k (s.readV vC)) + sumBelow (fun j => ui (elem 16 (2 * k + j) (s.readV vA)) * ui (elem 16 (2 * k + j) (s.readV vB))) 2)))

/-- `vmsumshm`: vector multiply sum signed half word modulo (R261). -/
def execVmsumshm (vD vA vB vC : VReg) (s : State) : Out :=
  vectorStep s (s.writeV vD (build 32 fun k =>
    modulo 32 (si (elem 32 k (s.readV vC)) + sumBelow (fun j => si (elem 16 (2 * k + j) (s.readV vA)) * si (elem 16 (2 * k + j) (s.readV vB))) 2)))

/-- `vmsumshs`: vector multiply sum signed half word saturate (R262). -/
def execVmsumshs (vD vA vB vC : VReg) (s : State) : Out :=
  vectorStep s (s.writeSat vD (buildSat 32 fun k =>
    satSigned 32 (si (elem 32 k (s.readV vC)) + sumBelow (fun j => si (elem 16 (2 * k + j) (s.readV vA)) * si (elem 16 (2 * k + j) (s.readV vB))) 2)))

/-- `vaddubm`: vector add unsigned byte modulo (R227). -/
def execVaddubm (vD vA vB : VReg) (s : State) : Out :=
  vectorStep s (s.writeV vD (map2 8 (fun a b => modulo 8 (ui a + ui b)) (s.readV vA) (s.readV vB)))

/-- `vmaxub`: vector maximum unsigned byte (R274). -/
def execVmaxub (vD vA vB : VReg) (s : State) : Out :=
  vectorStep s (s.writeV vD (map2 8 (fun a b => if ui a ≥ ui b then a else b) (s.readV vA) (s.readV vB)))

/-- `vmuloub`: vector multiply odd unsigned byte (R250). -/
def execVmuloub (vD vA vB : VReg) (s : State) : Out :=
  vectorStep s (s.writeV vD (build 16 fun k => modulo 16 (ui (elem 8 (2 * k + 1) (s.readV vA)) * ui (elem 8 (2 * k + 1) (s.readV vB)))))

/-- `vadduhm`: vector add unsigned half word modulo (R228). -/
def execVadduhm (vD vA vB : VReg) (s : State) : Out :=
  vectorStep s (s.writeV vD (map2 16 (fun a b => modulo 16 (ui a + ui b)) (s.readV vA) (s.readV vB)))

/-- `vmaxuh`: vector maximum unsigned half word (R275). -/
def execVmaxuh (vD vA vB : VReg) (s : State) : Out :=
  vectorStep s (s.writeV vD (map2 16 (fun a b => if ui a ≥ ui b then a else b) (s.readV vA) (s.readV vB)))

/-- `vmulouh`: vector multiply odd unsigned half word (R251). -/
def execVmulouh (vD vA vB : VReg) (s : State) : Out :=
  vectorStep s (s.writeV vD (build 32 fun k => modulo 32 (ui (elem 16 (2 * k + 1) (s.readV vA)) * ui (elem 16 (2 * k + 1) (s.readV vB)))))

/-- `vadduwm`: vector add unsigned word modulo (R229). -/
def execVadduwm (vD vA vB : VReg) (s : State) : Out :=
  vectorStep s (s.writeV vD (map2 32 (fun a b => modulo 32 (ui a + ui b)) (s.readV vA) (s.readV vB)))

/-- `vmaxuw`: vector maximum unsigned word (R276). -/
def execVmaxuw (vD vA vB : VReg) (s : State) : Out :=
  vectorStep s (s.writeV vD (map2 32 (fun a b => if ui a ≥ ui b then a else b) (s.readV vA) (s.readV vB)))

/-- `vmaxsb`: vector maximum signed byte (R277). -/
def execVmaxsb (vD vA vB : VReg) (s : State) : Out :=
  vectorStep s (s.writeV vD (map2 8 (fun a b => if si a ≥ si b then a else b) (s.readV vA) (s.readV vB)))

/-- `vmulosb`: vector multiply odd signed byte (R252). -/
def execVmulosb (vD vA vB : VReg) (s : State) : Out :=
  vectorStep s (s.writeV vD (build 16 fun k => modulo 16 (si (elem 8 (2 * k + 1) (s.readV vA)) * si (elem 8 (2 * k + 1) (s.readV vB)))))

/-- `vmaxsh`: vector maximum signed half word (R278). -/
def execVmaxsh (vD vA vB : VReg) (s : State) : Out :=
  vectorStep s (s.writeV vD (map2 16 (fun a b => if si a ≥ si b then a else b) (s.readV vA) (s.readV vB)))

/-- `vmulosh`: vector multiply odd signed half word (R253). -/
def execVmulosh (vD vA vB : VReg) (s : State) : Out :=
  vectorStep s (s.writeV vD (build 32 fun k => modulo 32 (si (elem 16 (2 * k + 1) (s.readV vA)) * si (elem 16 (2 * k + 1) (s.readV vB)))))

/-- `vaddcuw`: vector add carryout unsigned word (R226). -/
def execVaddcuw (vD vA vB : VReg) (s : State) : Out :=
  vectorStep s (s.writeV vD (map2 32 (fun a b => if ui a + ui b ≥ 2 ^ 32 then 1 else 0) (s.readV vA) (s.readV vB)))

/-- `vmaxsw`: vector maximum signed word (R279). -/
def execVmaxsw (vD vA vB : VReg) (s : State) : Out :=
  vectorStep s (s.writeV vD (map2 32 (fun a b => if si a ≥ si b then a else b) (s.readV vA) (s.readV vB)))

/-- `vaddubs`: vector add unsigned byte saturate (R230). -/
def execVaddubs (vD vA vB : VReg) (s : State) : Out :=
  vectorStep s (s.writeSat vD (buildSat 8 fun k => satUnsigned 8 (ui (elem 8 k (s.readV vA)) + ui (elem 8 k (s.readV vB)))))

/-- `vminub`: vector minimum unsigned byte (R280). -/
def execVminub (vD vA vB : VReg) (s : State) : Out :=
  vectorStep s (s.writeV vD (map2 8 (fun a b => if ui a < ui b then a else b) (s.readV vA) (s.readV vB)))

/-- `vmuleub`: vector multiply even unsigned byte (R246). -/
def execVmuleub (vD vA vB : VReg) (s : State) : Out :=
  vectorStep s (s.writeV vD (build 16 fun k => modulo 16 (ui (elem 8 (2 * k) (s.readV vA)) * ui (elem 8 (2 * k) (s.readV vB)))))

/-- `vadduhs`: vector add unsigned half word saturate (R231). -/
def execVadduhs (vD vA vB : VReg) (s : State) : Out :=
  vectorStep s (s.writeSat vD (buildSat 16 fun k => satUnsigned 16 (ui (elem 16 k (s.readV vA)) + ui (elem 16 k (s.readV vB)))))

/-- `vminuh`: vector minimum unsigned half word (R281). -/
def execVminuh (vD vA vB : VReg) (s : State) : Out :=
  vectorStep s (s.writeV vD (map2 16 (fun a b => if ui a < ui b then a else b) (s.readV vA) (s.readV vB)))

/-- `vmuleuh`: vector multiply even unsigned half word (R247). -/
def execVmuleuh (vD vA vB : VReg) (s : State) : Out :=
  vectorStep s (s.writeV vD (build 32 fun k => modulo 32 (ui (elem 16 (2 * k) (s.readV vA)) * ui (elem 16 (2 * k) (s.readV vB)))))

/-- `vadduws`: vector add unsigned word saturate (R232). -/
def execVadduws (vD vA vB : VReg) (s : State) : Out :=
  vectorStep s (s.writeSat vD (buildSat 32 fun k => satUnsigned 32 (ui (elem 32 k (s.readV vA)) + ui (elem 32 k (s.readV vB)))))

/-- `vminuw`: vector minimum unsigned word (R282). -/
def execVminuw (vD vA vB : VReg) (s : State) : Out :=
  vectorStep s (s.writeV vD (map2 32 (fun a b => if ui a < ui b then a else b) (s.readV vA) (s.readV vB)))

/-- `vaddsbs`: vector add signed byte saturate (R233). -/
def execVaddsbs (vD vA vB : VReg) (s : State) : Out :=
  vectorStep s (s.writeSat vD (buildSat 8 fun k => satSigned 8 (si (elem 8 k (s.readV vA)) + si (elem 8 k (s.readV vB)))))

/-- `vminsb`: vector minimum signed byte (R283). -/
def execVminsb (vD vA vB : VReg) (s : State) : Out :=
  vectorStep s (s.writeV vD (map2 8 (fun a b => if si a < si b then a else b) (s.readV vA) (s.readV vB)))

/-- `vmulesb`: vector multiply even signed byte (R248). -/
def execVmulesb (vD vA vB : VReg) (s : State) : Out :=
  vectorStep s (s.writeV vD (build 16 fun k => modulo 16 (si (elem 8 (2 * k) (s.readV vA)) * si (elem 8 (2 * k) (s.readV vB)))))

/-- `vaddshs`: vector add signed half word saturate (R234). -/
def execVaddshs (vD vA vB : VReg) (s : State) : Out :=
  vectorStep s (s.writeSat vD (buildSat 16 fun k => satSigned 16 (si (elem 16 k (s.readV vA)) + si (elem 16 k (s.readV vB)))))

/-- `vminsh`: vector minimum signed half word (R284). -/
def execVminsh (vD vA vB : VReg) (s : State) : Out :=
  vectorStep s (s.writeV vD (map2 16 (fun a b => if si a < si b then a else b) (s.readV vA) (s.readV vB)))

/-- `vmulesh`: vector multiply even signed half word (R249). -/
def execVmulesh (vD vA vB : VReg) (s : State) : Out :=
  vectorStep s (s.writeV vD (build 32 fun k => modulo 32 (si (elem 16 (2 * k) (s.readV vA)) * si (elem 16 (2 * k) (s.readV vB)))))

/-- `vaddsws`: vector add signed word saturate (R235). -/
def execVaddsws (vD vA vB : VReg) (s : State) : Out :=
  vectorStep s (s.writeSat vD (buildSat 32 fun k => satSigned 32 (si (elem 32 k (s.readV vA)) + si (elem 32 k (s.readV vB)))))

/-- `vminsw`: vector minimum signed word (R285). -/
def execVminsw (vD vA vB : VReg) (s : State) : Out :=
  vectorStep s (s.writeV vD (map2 32 (fun a b => if si a < si b then a else b) (s.readV vA) (s.readV vB)))

/-- `vsububm`: vector subtract unsigned byte modulo (R237). -/
def execVsububm (vD vA vB : VReg) (s : State) : Out :=
  vectorStep s (s.writeV vD (map2 8 (fun a b => modulo 8 (ui a - ui b)) (s.readV vA) (s.readV vB)))

/-- `vavgub`: vector average unsigned byte (R268). -/
def execVavgub (vD vA vB : VReg) (s : State) : Out :=
  vectorStep s (s.writeV vD (map2 8 (fun a b => modulo 8 ((ui a + ui b + 1) / 2)) (s.readV vA) (s.readV vB)))

/-- `vsubuhm`: vector subtract unsigned half word modulo (R238). -/
def execVsubuhm (vD vA vB : VReg) (s : State) : Out :=
  vectorStep s (s.writeV vD (map2 16 (fun a b => modulo 16 (ui a - ui b)) (s.readV vA) (s.readV vB)))

/-- `vavguh`: vector average unsigned half word (R269). -/
def execVavguh (vD vA vB : VReg) (s : State) : Out :=
  vectorStep s (s.writeV vD (map2 16 (fun a b => modulo 16 ((ui a + ui b + 1) / 2)) (s.readV vA) (s.readV vB)))

/-- `vsubuwm`: vector subtract unsigned word modulo (R239). -/
def execVsubuwm (vD vA vB : VReg) (s : State) : Out :=
  vectorStep s (s.writeV vD (map2 32 (fun a b => modulo 32 (ui a - ui b)) (s.readV vA) (s.readV vB)))

/-- `vavguw`: vector average unsigned word (R270). -/
def execVavguw (vD vA vB : VReg) (s : State) : Out :=
  vectorStep s (s.writeV vD (map2 32 (fun a b => modulo 32 ((ui a + ui b + 1) / 2)) (s.readV vA) (s.readV vB)))

/-- `vavgsb`: vector average signed byte (R271). -/
def execVavgsb (vD vA vB : VReg) (s : State) : Out :=
  vectorStep s (s.writeV vD (map2 8 (fun a b => modulo 8 ((si a + si b + 1) / 2)) (s.readV vA) (s.readV vB)))

/-- `vavgsh`: vector average signed half word (R272). -/
def execVavgsh (vD vA vB : VReg) (s : State) : Out :=
  vectorStep s (s.writeV vD (map2 16 (fun a b => modulo 16 ((si a + si b + 1) / 2)) (s.readV vA) (s.readV vB)))

/-- `vsubcuw`: vector subtract carryout unsigned word (R236). -/
def execVsubcuw (vD vA vB : VReg) (s : State) : Out :=
  vectorStep s (s.writeV vD (map2 32 (fun a b => if ui a + ui (~~~b) + 1 ≥ 2 ^ 32 then 1 else 0) (s.readV vA) (s.readV vB)))

/-- `vavgsw`: vector average signed word (R273). -/
def execVavgsw (vD vA vB : VReg) (s : State) : Out :=
  vectorStep s (s.writeV vD (map2 32 (fun a b => modulo 32 ((si a + si b + 1) / 2)) (s.readV vA) (s.readV vB)))

/-- `vsububs`: vector subtract unsigned byte saturate (R240). -/
def execVsububs (vD vA vB : VReg) (s : State) : Out :=
  vectorStep s (s.writeSat vD (buildSat 8 fun k => satUnsigned 8 (ui (elem 8 k (s.readV vA)) - ui (elem 8 k (s.readV vB)))))

/-- `vsum4ubs`: vector sum across partial (1/4) unsigned byte saturate (R265). -/
def execVsum4ubs (vD vA vB : VReg) (s : State) : Out :=
  vectorStep s (s.writeSat vD (buildSat 32 fun k =>
    satUnsigned 32 (ui (elem 32 k (s.readV vB)) + sumBelow (fun j => ui (elem 8 (4 * k + j) (s.readV vA))) 4)))

/-- `vsubuhs`: vector subtract unsigned half word saturate (R241). -/
def execVsubuhs (vD vA vB : VReg) (s : State) : Out :=
  vectorStep s (s.writeSat vD (buildSat 16 fun k => satUnsigned 16 (ui (elem 16 k (s.readV vA)) - ui (elem 16 k (s.readV vB)))))

/-- `vsum4shs`: vector sum across partial (1/4) signed half word saturate (R267). -/
def execVsum4shs (vD vA vB : VReg) (s : State) : Out :=
  vectorStep s (s.writeSat vD (buildSat 32 fun k =>
    satSigned 32 (si (elem 32 k (s.readV vB)) + sumBelow (fun j => si (elem 16 (2 * k + j) (s.readV vA))) 2)))

/-- `vsubuws`: vector subtract unsigned word saturate (R242). -/
def execVsubuws (vD vA vB : VReg) (s : State) : Out :=
  vectorStep s (s.writeSat vD (buildSat 32 fun k => satUnsigned 32 (ui (elem 32 k (s.readV vA)) - ui (elem 32 k (s.readV vB)))))

/-- `vsum2sws`: vector sum across partial (1/2) signed word saturate (R264). -/
def execVsum2sws (vD vA vB : VReg) (s : State) : Out :=
  vectorStep s (s.writeSat vD (buildSat 32 fun k =>
    if k % 2 = 1 then satSigned 32 (si (elem 32 (k - 1) (s.readV vA)) + si (elem 32 k (s.readV vA)) + si (elem 32 k (s.readV vB))) else (0, false)))

/-- `vsubsbs`: vector subtract signed byte saturate (R243). -/
def execVsubsbs (vD vA vB : VReg) (s : State) : Out :=
  vectorStep s (s.writeSat vD (buildSat 8 fun k => satSigned 8 (si (elem 8 k (s.readV vA)) - si (elem 8 k (s.readV vB)))))

/-- `vsum4sbs`: vector sum across partial (1/4) signed byte saturate (R266). -/
def execVsum4sbs (vD vA vB : VReg) (s : State) : Out :=
  vectorStep s (s.writeSat vD (buildSat 32 fun k =>
    satSigned 32 (si (elem 32 k (s.readV vB)) + sumBelow (fun j => si (elem 8 (4 * k + j) (s.readV vA))) 4)))

/-- `vsubshs`: vector subtract signed half word saturate (R244). -/
def execVsubshs (vD vA vB : VReg) (s : State) : Out :=
  vectorStep s (s.writeSat vD (buildSat 16 fun k => satSigned 16 (si (elem 16 k (s.readV vA)) - si (elem 16 k (s.readV vB)))))

/-- `vsubsws`: vector subtract signed word saturate (R245). -/
def execVsubsws (vD vA vB : VReg) (s : State) : Out :=
  vectorStep s (s.writeSat vD (buildSat 32 fun k => satSigned 32 (si (elem 32 k (s.readV vA)) - si (elem 32 k (s.readV vB)))))

/-- `vsumsws`: vector sum across signed word saturate (R263). -/
def execVsumsws (vD vA vB : VReg) (s : State) : Out :=
  vectorStep s (s.writeSat vD (buildSat 32 fun k =>
    if k = 3 then satSigned 32 (si (elem 32 3 (s.readV vB)) + sumBelow (fun j => si (elem 32 j (s.readV vA))) 4) else (0, false)))

end Sys2Proof.Machine
end

