-- ==== Sys2Proof/Machine/IntLogic.lean ====
section
/-! DEFINITION. Vector integer compare, logical, rotate and shift (42_int_cmp_logic_shift.md R300 to R332). -/
namespace Sys2Proof.Machine

/-- `vrlb`: vector rotate left integer byte (R319). -/
def execVrlb (vD vA vB : VReg) (s : State) : Out :=
  vectorStep s (s.writeV vD (map2 8 (fun a b => a.rotateLeft (shiftCount b)) (s.readV vA) (s.readV vB)))

/-- `vrlh`: vector rotate left integer half word (R320). -/
def execVrlh (vD vA vB : VReg) (s : State) : Out :=
  vectorStep s (s.writeV vD (map2 16 (fun a b => a.rotateLeft (shiftCount b)) (s.readV vA) (s.readV vB)))

/-- `vrlw`: vector rotate left integer word (R321). -/
def execVrlw (vD vA vB : VReg) (s : State) : Out :=
  vectorStep s (s.writeV vD (map2 32 (fun a b => a.rotateLeft (shiftCount b)) (s.readV vA) (s.readV vB)))

/-- `vslb`: vector shift left integer byte (R322). -/
def execVslb (vD vA vB : VReg) (s : State) : Out :=
  vectorStep s (s.writeV vD (map2 8 (fun a b => a <<< shiftCount b) (s.readV vA) (s.readV vB)))

/-- `vslh`: vector shift left integer half word (R323). -/
def execVslh (vD vA vB : VReg) (s : State) : Out :=
  vectorStep s (s.writeV vD (map2 16 (fun a b => a <<< shiftCount b) (s.readV vA) (s.readV vB)))

/-- `vslw`: vector shift left integer word (R324). -/
def execVslw (vD vA vB : VReg) (s : State) : Out :=
  vectorStep s (s.writeV vD (map2 32 (fun a b => a <<< shiftCount b) (s.readV vA) (s.readV vB)))

/-- `vsrb`: vector shift right byte (R325). -/
def execVsrb (vD vA vB : VReg) (s : State) : Out :=
  vectorStep s (s.writeV vD (map2 8 (fun a b => a >>> shiftCount b) (s.readV vA) (s.readV vB)))

/-- `vsrh`: vector shift right half word (R326). -/
def execVsrh (vD vA vB : VReg) (s : State) : Out :=
  vectorStep s (s.writeV vD (map2 16 (fun a b => a >>> shiftCount b) (s.readV vA) (s.readV vB)))

/-- `vsrw`: vector shift right word (R327). -/
def execVsrw (vD vA vB : VReg) (s : State) : Out :=
  vectorStep s (s.writeV vD (map2 32 (fun a b => a >>> shiftCount b) (s.readV vA) (s.readV vB)))

/-- `vsrab`: vector shift right algebraic byte (R328). -/
def execVsrab (vD vA vB : VReg) (s : State) : Out :=
  vectorStep s (s.writeV vD (map2 8 (fun a b => a.sshiftRight (shiftCount b)) (s.readV vA) (s.readV vB)))

/-- `vsrah`: vector shift right algebraic half word (R329). -/
def execVsrah (vD vA vB : VReg) (s : State) : Out :=
  vectorStep s (s.writeV vD (map2 16 (fun a b => a.sshiftRight (shiftCount b)) (s.readV vA) (s.readV vB)))

/-- `vsraw`: vector shift right algebraic word (R330). -/
def execVsraw (vD vA vB : VReg) (s : State) : Out :=
  vectorStep s (s.writeV vD (map2 32 (fun a b => a.sshiftRight (shiftCount b)) (s.readV vA) (s.readV vB)))

/-- `vand`: vector logical AND (R313). -/
def execVand (vD vA vB : VReg) (s : State) : Out :=
  vectorStep s (s.writeV vD (s.readV vA &&& s.readV vB))

/-- `vandc`: vector logical AND with complement (R314). -/
def execVandc (vD vA vB : VReg) (s : State) : Out :=
  vectorStep s (s.writeV vD (s.readV vA &&& ~~~(s.readV vB)))

/-- `vor`: vector logical OR (R316). -/
def execVor (vD vA vB : VReg) (s : State) : Out :=
  vectorStep s (s.writeV vD (s.readV vA ||| s.readV vB))

/-- `vxor`: vector logical XOR (R317). -/
def execVxor (vD vA vB : VReg) (s : State) : Out :=
  vectorStep s (s.writeV vD (s.readV vA ^^^ s.readV vB))

/-- `vnor`: vector logical NOR (R315). -/
def execVnor (vD vA vB : VReg) (s : State) : Out :=
  vectorStep s (s.writeV vD (~~~(s.readV vA ||| s.readV vB)))

/-- `vcmpequb`: vector compare equal-to unsigned byte (R303). -/
def execVcmpequb (vD vA vB : VReg) (rc : Bool) (s : State) : Out :=
  vectorStep s (s.writeCompare vD rc (map2 8 (fun a b => truth 8 (a == b)) (s.readV vA) (s.readV vB)))

/-- `vcmpequh`: vector compare equal-to unsigned half word (R304). -/
def execVcmpequh (vD vA vB : VReg) (rc : Bool) (s : State) : Out :=
  vectorStep s (s.writeCompare vD rc (map2 16 (fun a b => truth 16 (a == b)) (s.readV vA) (s.readV vB)))

/-- `vcmpequw`: vector compare equal-to unsigned word (R305). -/
def execVcmpequw (vD vA vB : VReg) (rc : Bool) (s : State) : Out :=
  vectorStep s (s.writeCompare vD rc (map2 32 (fun a b => truth 32 (a == b)) (s.readV vA) (s.readV vB)))

/-- `vcmpgtub`: vector compare greater-than unsigned byte (R306). -/
def execVcmpgtub (vD vA vB : VReg) (rc : Bool) (s : State) : Out :=
  vectorStep s (s.writeCompare vD rc (map2 8 (fun a b => truth 8 (decide (ui a > ui b))) (s.readV vA) (s.readV vB)))

/-- `vcmpgtuh`: vector compare greater-than unsigned half word (R307). -/
def execVcmpgtuh (vD vA vB : VReg) (rc : Bool) (s : State) : Out :=
  vectorStep s (s.writeCompare vD rc (map2 16 (fun a b => truth 16 (decide (ui a > ui b))) (s.readV vA) (s.readV vB)))

/-- `vcmpgtuw`: vector compare greater-than unsigned word (R308). -/
def execVcmpgtuw (vD vA vB : VReg) (rc : Bool) (s : State) : Out :=
  vectorStep s (s.writeCompare vD rc (map2 32 (fun a b => truth 32 (decide (ui a > ui b))) (s.readV vA) (s.readV vB)))

/-- `vcmpgtsb`: vector compare greater-than signed byte (R309). -/
def execVcmpgtsb (vD vA vB : VReg) (rc : Bool) (s : State) : Out :=
  vectorStep s (s.writeCompare vD rc (map2 8 (fun a b => truth 8 (decide (si a > si b))) (s.readV vA) (s.readV vB)))

/-- `vcmpgtsh`: vector compare greater-than signed half word (R310). -/
def execVcmpgtsh (vD vA vB : VReg) (rc : Bool) (s : State) : Out :=
  vectorStep s (s.writeCompare vD rc (map2 16 (fun a b => truth 16 (decide (si a > si b))) (s.readV vA) (s.readV vB)))

/-- `vcmpgtsw`: vector compare greater-than signed word (R311). -/
def execVcmpgtsw (vD vA vB : VReg) (rc : Bool) (s : State) : Out :=
  vectorStep s (s.writeCompare vD rc (map2 32 (fun a b => truth 32 (decide (si a > si b))) (s.readV vA) (s.readV vB)))

end Sys2Proof.Machine
end

