-- ==== Sys2Proof/Machine/LoadStore.lean ====
section
/-! DEFINITION. Vector loads and stores, lvsl and lvsr (40_load_store.md R180 to R198; 20_memory.md R105 to R112). -/
namespace Sys2Proof.Machine

/-- An element load of `n` bytes: the other elements of vD are undefined, the addressed one comes from memory at the modified
address (20_memory.md R105, R109, R112). -/
def State.loadElement (s : State) (n : Nat) (vD : VReg) (ea : Word) : State :=
  (s.writeV vD (setElem (8 * n) (s.lane n ea) (s.memRead (s.munge n ea) n) s.undefQuad)).drawn

/-- An element store of `n` bytes (20_memory.md R105, R109). -/
def State.storeElement (s : State) (n : Nat) (vS : VReg) (ea : Word) : State :=
  s.memWrite (s.munge n ea) n (elem (8 * n) (s.lane n ea) (s.readV vS))

/-- A quad-word load: the two double words exchanged in little-endian mode (20_memory.md R105, R108; R185). -/
def State.loadQuad (s : State) (ea : Word) : Quad :=
  if s.le then s.memRead (ea + 8) 8 ++ s.memRead ea 8 else s.memRead ea 16

/-- A quad-word store (20_memory.md R105, R108; R192). -/
def State.storeQuad (s : State) (ea : Word) (q : Quad) : State :=
  if s.le then (s.memWrite ea 8 (q.extractLsb' 0 64)).memWrite (ea + 8) 8 (q.extractLsb' 64 64) else s.memWrite ea 16 q

/-- sh of lvsl and lvsr: the low four bits of the sum, without any alignment (R187, R188). -/
def State.eaShift (s : State) (rA rB : GReg) : Nat := (s.eaSum rA rB).toNat % 16

/-- `lvsl`: load vector for shift left (R187). -/
def execLvsl (vD : VReg) (rA rB : GReg) (s : State) : Out :=
  vectorStep s (s.writeV vD (build 8 fun j => BitVec.ofNat 8 (s.eaShift rA rB + j)))

/-- `lvebx`: load vector element byte indexed (R182). -/
def execLvebx (vD : VReg) (rA rB : GReg) (s : State) : Out :=
  accessStep s (s.ea 1 rA rB) s (s.loadElement 1 vD (s.ea 1 rA rB))

/-- `lvsr`: load vector for shift right (R188). -/
def execLvsr (vD : VReg) (rA rB : GReg) (s : State) : Out :=
  vectorStep s (s.writeV vD (build 8 fun j => BitVec.ofNat 8 (16 - s.eaShift rA rB + j)))

/-- `lvehx`: load vector element half word indexed (R183). -/
def execLvehx (vD : VReg) (rA rB : GReg) (s : State) : Out :=
  accessStep s (s.ea 2 rA rB) s (s.loadElement 2 vD (s.ea 2 rA rB))

/-- `lvewx`: load vector element word indexed (R184). -/
def execLvewx (vD : VReg) (rA rB : GReg) (s : State) : Out :=
  accessStep s (s.ea 4 rA rB) s (s.loadElement 4 vD (s.ea 4 rA rB))

/-- `lvx`: load vector indexed (R185). A DSI would leave vD undefined (60_exceptions.md R520). -/
def execLvx (vD : VReg) (rA rB : GReg) (s : State) : Out :=
  accessStep s (s.ea 16 rA rB) (s.writeV vD s.undefQuad).drawn (s.writeV vD (s.loadQuad (s.ea 16 rA rB)))

/-- `stvebx`: store vector element byte indexed (R189). -/
def execStvebx (vS : VReg) (rA rB : GReg) (s : State) : Out :=
  accessStep s (s.ea 1 rA rB) s (s.storeElement 1 vS (s.ea 1 rA rB))

/-- `stvehx`: store vector element half word indexed (R190). -/
def execStvehx (vS : VReg) (rA rB : GReg) (s : State) : Out :=
  accessStep s (s.ea 2 rA rB) s (s.storeElement 2 vS (s.ea 2 rA rB))

/-- `stvewx`: store vector element word indexed (R191). -/
def execStvewx (vS : VReg) (rA rB : GReg) (s : State) : Out :=
  accessStep s (s.ea 4 rA rB) s (s.storeElement 4 vS (s.ea 4 rA rB))

/-- `stvx`: store vector indexed (R192). -/
def execStvx (vS : VReg) (rA rB : GReg) (s : State) : Out :=
  accessStep s (s.ea 16 rA rB) s (s.storeQuad (s.ea 16 rA rB) (s.readV vS))

/-- `lvxl`: load vector indexed LRU (R186). A DSI would leave vD undefined (60_exceptions.md R520). The hint to the cache has no effect (10_state.md R69, log 33). -/
def execLvxl (vD : VReg) (rA rB : GReg) (s : State) : Out :=
  accessStep s (s.ea 16 rA rB) (s.writeV vD s.undefQuad).drawn (s.writeV vD (s.loadQuad (s.ea 16 rA rB)))

/-- `stvxl`: store vector indexed LRU (R193). The hint to the cache has no effect (10_state.md R69, log 33). -/
def execStvxl (vS : VReg) (rA rB : GReg) (s : State) : Out :=
  accessStep s (s.ea 16 rA rB) s (s.storeQuad (s.ea 16 rA rB) (s.readV vS))

end Sys2Proof.Machine
end

