-- ==== Sys2Proof/Machine/Permute.lean ====
section
/-! DEFINITION. Pack, unpack, merge, splat, permute, select and the shifts of a whole register (44_permute.md R420 to R462). -/
namespace Sys2Proof.Machine

/-- A 32-bit pixel packed to 16 bits: w[7] || w[8:12] || w[16:20] || w[24:28] (R430). -/
def packPixel (w : Word) : Half :=
  w.extractLsb' 24 1 ++ w.extractLsb' 19 5 ++ w.extractLsb' 11 5 ++ w.extractLsb' 3 5

/-- A 16-bit pixel unpacked to 32 bits: (8)h[0] || 000 || h[1:5] || 000 || h[6:10] || 000 || h[11:15] (R435, R436). -/
def unpackPixel (h : Half) : Word :=
  (h.extractLsb' 15 1).signExtend 8 ++ (h.extractLsb' 10 5).setWidth 8 ++ (h.extractLsb' 5 5).setWidth 8
    ++ (h.extractLsb' 0 5).setWidth 8

/-- The bit count of vsl and vsr: B[125:127] (R453). -/
def bitCount (b : Quad) : Nat := (elem 8 15 b).toNat % 8

/-- The byte count of vslo and vsro: B[121:124] (R453). -/
def octetCount (b : Quad) : Nat := (elem 8 15 b).toNat / 8 % 16

/-- The low-order three bits of all bytes of vB are the same (R454). -/
def shiftsAgree (b : Quad) : Bool := allBelow (fun j => (elem 8 j b).toNat % 8 == bitCount b) 16

/-- `vsel`: vector conditional select (R452). -/
def execVsel (vD vA vB vC : VReg) (s : State) : Out :=
  vectorStep s (s.writeV vD ((s.readV vA &&& ~~~(s.readV vC)) ||| (s.readV vB &&& s.readV vC)))

/-- `vperm`: vector permute (R451). -/
def execVperm (vD vA vB vC : VReg) (s : State) : Out :=
  vectorStep s (s.writeV vD (build 8 fun j => pairElem 8 (s.readV vA) (s.readV vB) ((elem 8 j (s.readV vC)).toNat % 32)))

/-- `vsldoi`: vector shift left double by octet immediate (R458). -/
def execVsldoi (vD vA vB : VReg) (shb : Fin 16) (s : State) : Out :=
  vectorStep s (s.writeV vD (build 8 fun j => pairElem 8 (s.readV vA) (s.readV vB) (shb.val + j)))

/-- `vmrghb`: vector merge high byte (R438). -/
def execVmrghb (vD vA vB : VReg) (s : State) : Out :=
  vectorStep s (s.writeV vD (build 8 fun j => if j % 2 = 0 then elem 8 (j / 2) (s.readV vA) else elem 8 (j / 2) (s.readV vB)))

/-- `vpkuhum`: vector pack unsigned half word unsigned modulo (R422). -/
def execVpkuhum (vD vA vB : VReg) (s : State) : Out :=
  vectorStep s (s.writeV vD (build 8 fun j => (pairElem 16 (s.readV vA) (s.readV vB) j).extractLsb' 0 8))

/-- `vmrghh`: vector merge high half word (R439). -/
def execVmrghh (vD vA vB : VReg) (s : State) : Out :=
  vectorStep s (s.writeV vD (build 16 fun j => if j % 2 = 0 then elem 16 (j / 2) (s.readV vA) else elem 16 (j / 2) (s.readV vB)))

/-- `vpkuwum`: vector pack unsigned word unsigned modulo (R426). -/
def execVpkuwum (vD vA vB : VReg) (s : State) : Out :=
  vectorStep s (s.writeV vD (build 16 fun j => (pairElem 32 (s.readV vA) (s.readV vB) j).extractLsb' 0 16))

/-- `vmrghw`: vector merge high word (R440). -/
def execVmrghw (vD vA vB : VReg) (s : State) : Out :=
  vectorStep s (s.writeV vD (build 32 fun j => if j % 2 = 0 then elem 32 (j / 2) (s.readV vA) else elem 32 (j / 2) (s.readV vB)))

/-- `vpkuhus`: vector pack unsigned half word unsigned saturate (R423). -/
def execVpkuhus (vD vA vB : VReg) (s : State) : Out :=
  vectorStep s (s.writeSat vD (buildSat 8 fun j => satUnsigned 8 (ui (pairElem 16 (s.readV vA) (s.readV vB) j))))

/-- `vpkuwus`: vector pack unsigned word unsigned saturate (R427). -/
def execVpkuwus (vD vA vB : VReg) (s : State) : Out :=
  vectorStep s (s.writeSat vD (buildSat 16 fun j => satUnsigned 16 (ui (pairElem 32 (s.readV vA) (s.readV vB) j))))

/-- `vmrglb`: vector merge low byte (R441). -/
def execVmrglb (vD vA vB : VReg) (s : State) : Out :=
  vectorStep s (s.writeV vD (build 8 fun j => if j % 2 = 0 then elem 8 (8 + j / 2) (s.readV vA) else elem 8 (8 + j / 2) (s.readV vB)))

/-- `vpkshus`: vector pack signed half word unsigned saturate (R424). -/
def execVpkshus (vD vA vB : VReg) (s : State) : Out :=
  vectorStep s (s.writeSat vD (buildSat 8 fun j => satUnsigned 8 (si (pairElem 16 (s.readV vA) (s.readV vB) j))))

/-- `vmrglh`: vector merge low half word (R442). -/
def execVmrglh (vD vA vB : VReg) (s : State) : Out :=
  vectorStep s (s.writeV vD (build 16 fun j => if j % 2 = 0 then elem 16 (4 + j / 2) (s.readV vA) else elem 16 (4 + j / 2) (s.readV vB)))

/-- `vpkswus`: vector pack signed word unsigned saturate (R428). -/
def execVpkswus (vD vA vB : VReg) (s : State) : Out :=
  vectorStep s (s.writeSat vD (buildSat 16 fun j => satUnsigned 16 (si (pairElem 32 (s.readV vA) (s.readV vB) j))))

/-- `vmrglw`: vector merge low word (R443). -/
def execVmrglw (vD vA vB : VReg) (s : State) : Out :=
  vectorStep s (s.writeV vD (build 32 fun j => if j % 2 = 0 then elem 32 (2 + j / 2) (s.readV vA) else elem 32 (2 + j / 2) (s.readV vB)))

/-- `vpkshss`: vector pack signed half word signed saturate (R425). -/
def execVpkshss (vD vA vB : VReg) (s : State) : Out :=
  vectorStep s (s.writeSat vD (buildSat 8 fun j => satSigned 8 (si (pairElem 16 (s.readV vA) (s.readV vB) j))))

/-- `vsl`: vector shift left (by bits) (R454). Unequal counts leave vD undefined (log 9). -/
def execVsl (vD vA vB : VReg) (s : State) : Out :=
  vectorStep s (if shiftsAgree (s.readV vB) then s.writeV vD (s.readV vA <<< bitCount (s.readV vB))
    else (s.writeV vD s.undefQuad).drawn)

/-- `vpkswss`: vector pack signed word signed saturate (R429). -/
def execVpkswss (vD vA vB : VReg) (s : State) : Out :=
  vectorStep s (s.writeSat vD (buildSat 16 fun j => satSigned 16 (si (pairElem 32 (s.readV vA) (s.readV vB) j))))

/-- `vspltb`: vector splat byte (R445). The unused upper bits of UIMM are ignored (D15, log 18). -/
def execVspltb (vD : VReg) (uimm : BitVec 5) (vB : VReg) (s : State) : Out :=
  vectorStep s (s.writeV vD (build 8 fun _ => elem 8 (uimm.toNat % 16) (s.readV vB)))

/-- `vupkhsb`: vector unpack high signed byte (R431). -/
def execVupkhsb (vD vB : VReg) (s : State) : Out :=
  vectorStep s (s.writeV vD (build 16 fun j => (elem 8 j (s.readV vB)).signExtend 16))

/-- `vsplth`: vector splat half word (R446). The unused upper bits of UIMM are ignored (D15, log 18). -/
def execVsplth (vD : VReg) (uimm : BitVec 5) (vB : VReg) (s : State) : Out :=
  vectorStep s (s.writeV vD (build 16 fun _ => elem 16 (uimm.toNat % 8) (s.readV vB)))

/-- `vupkhsh`: vector unpack high signed half word (R432). -/
def execVupkhsh (vD vB : VReg) (s : State) : Out :=
  vectorStep s (s.writeV vD (build 32 fun j => (elem 16 j (s.readV vB)).signExtend 32))

/-- `vspltw`: vector splat word (R447). The unused upper bits of UIMM are ignored (D15, log 18). -/
def execVspltw (vD : VReg) (uimm : BitVec 5) (vB : VReg) (s : State) : Out :=
  vectorStep s (s.writeV vD (build 32 fun _ => elem 32 (uimm.toNat % 4) (s.readV vB)))

/-- `vupklsb`: vector unpack low signed byte (R433). -/
def execVupklsb (vD vB : VReg) (s : State) : Out :=
  vectorStep s (s.writeV vD (build 16 fun j => (elem 8 (8 + j) (s.readV vB)).signExtend 16))

/-- `vsr`: vector shift right (by bits) (R455). Unequal counts leave vD undefined (log 9). -/
def execVsr (vD vA vB : VReg) (s : State) : Out :=
  vectorStep s (if shiftsAgree (s.readV vB) then s.writeV vD (s.readV vA >>> bitCount (s.readV vB))
    else (s.writeV vD s.undefQuad).drawn)

/-- `vupklsh`: vector unpack low signed half word (R434). -/
def execVupklsh (vD vB : VReg) (s : State) : Out :=
  vectorStep s (s.writeV vD (build 32 fun j => (elem 16 (4 + j) (s.readV vB)).signExtend 32))

/-- `vspltisb`: vector splat immediate signed byte (R448). -/
def execVspltisb (vD : VReg) (simm : BitVec 5) (s : State) : Out :=
  vectorStep s (s.writeV vD (build 8 fun _ => simm.signExtend 8))

/-- `vpkpx`: vector pack pixel (R430). -/
def execVpkpx (vD vA vB : VReg) (s : State) : Out :=
  vectorStep s (s.writeV vD (build 16 fun j => packPixel (pairElem 32 (s.readV vA) (s.readV vB) j)))

/-- `vspltish`: vector splat immediate signed half word (R449). -/
def execVspltish (vD : VReg) (simm : BitVec 5) (s : State) : Out :=
  vectorStep s (s.writeV vD (build 16 fun _ => simm.signExtend 16))

/-- `vupkhpx`: vector unpack high pixel (R435). -/
def execVupkhpx (vD vB : VReg) (s : State) : Out :=
  vectorStep s (s.writeV vD (build 32 fun j => unpackPixel (elem 16 j (s.readV vB))))

/-- `vspltisw`: vector splat immediate signed word (R450). -/
def execVspltisw (vD : VReg) (simm : BitVec 5) (s : State) : Out :=
  vectorStep s (s.writeV vD (build 32 fun _ => simm.signExtend 32))

/-- `vupklpx`: vector unpack low pixel (R436). -/
def execVupklpx (vD vB : VReg) (s : State) : Out :=
  vectorStep s (s.writeV vD (build 32 fun j => unpackPixel (elem 16 (4 + j) (s.readV vB))))

/-- `vslo`: vector shift left by octet (R456). -/
def execVslo (vD vA vB : VReg) (s : State) : Out :=
  vectorStep s (s.writeV vD (s.readV vA <<< (8 * octetCount (s.readV vB))))

/-- `vsro`: vector shift right by octet (R457). -/
def execVsro (vD vA vB : VReg) (s : State) : Out :=
  vectorStep s (s.writeV vD (s.readV vA >>> (8 * octetCount (s.readV vB))))

end Sys2Proof.Machine
end

