-- ==== Sys2Proof/Machine/VscrControl.lean ====
section
/-! DEFINITION. The VSCR moves (45_vscr_control.md R480 to R482). -/
namespace Sys2Proof.Machine

/-- VSCR as mfvscr reads it: NJ and SAT, and in each reserved bit 0 where 0 is stored, else an undefined bit (R480; 10_state.md
R42). -/
def State.vscrImage (s : State) : Word :=
  (s.vscrValue &&& ~~~vscrReserved) ||| (s.vscrValue &&& vscrReserved &&& s.undefWord)

/-- `mfvscr`: move from vector status and control register (R480). Each reserved bit that holds 1 reads as an undefined bit (R42, D3, log 8). -/
def execMfvscr (vD : VReg) (s : State) : Out :=
  vectorStep s ((s.writeV vD (s.vscrImage.setWidth 128)).drawn)

/-- `mtvscr`: move to vector status and control register (R481). All 32 bits are stored; how NJ reads back is `State.vscrValue`. -/
def execMtvscr (vB : VReg) (s : State) : Out :=
  vectorStep s { s with vscr := (s.readV vB).extractLsb' 0 32 }

end Sys2Proof.Machine
end

