-- ==== Sys2Proof/Machine/Dispatch.lean ====
section
/-! DEFINITION. One arm for each instruction of the opcode table, in the order of Syntax.lean. -/
namespace Sys2Proof.Machine

/-- The effect of one instruction. -/
def exec (i : Instr) (s : State) : Host.Outcome State Fault Refusal :=
  match i with
  | .lvsl vD rA rB => Sys2Proof.Machine.execLvsl vD rA rB s
  | .lvebx vD rA rB => Sys2Proof.Machine.execLvebx vD rA rB s
  | .lvsr vD rA rB => Sys2Proof.Machine.execLvsr vD rA rB s
  | .lvehx vD rA rB => Sys2Proof.Machine.execLvehx vD rA rB s
  | .lvewx vD rA rB => Sys2Proof.Machine.execLvewx vD rA rB s
  | .lvx vD rA rB => Sys2Proof.Machine.execLvx vD rA rB s
  | .stvebx vS rA rB => Sys2Proof.Machine.execStvebx vS rA rB s
  | .stvehx vS rA rB => Sys2Proof.Machine.execStvehx vS rA rB s
  | .stvewx vS rA rB => Sys2Proof.Machine.execStvewx vS rA rB s
  | .stvx vS rA rB => Sys2Proof.Machine.execStvx vS rA rB s
  | .lvxl vD rA rB => Sys2Proof.Machine.execLvxl vD rA rB s
  | .stvxl vS rA rB => Sys2Proof.Machine.execStvxl vS rA rB s
  | .vmhaddshs vD vA vB vC => Sys2Proof.Machine.execVmhaddshs vD vA vB vC s
  | .vmhraddshs vD vA vB vC => Sys2Proof.Machine.execVmhraddshs vD vA vB vC s
  | .vmladduhm vD vA vB vC => Sys2Proof.Machine.execVmladduhm vD vA vB vC s
  | .vmsumubm vD vA vB vC => Sys2Proof.Machine.execVmsumubm vD vA vB vC s
  | .vmsummbm vD vA vB vC => Sys2Proof.Machine.execVmsummbm vD vA vB vC s
  | .vmsumuhm vD vA vB vC => Sys2Proof.Machine.execVmsumuhm vD vA vB vC s
  | .vmsumuhs vD vA vB vC => Sys2Proof.Machine.execVmsumuhs vD vA vB vC s
  | .vmsumshm vD vA vB vC => Sys2Proof.Machine.execVmsumshm vD vA vB vC s
  | .vmsumshs vD vA vB vC => Sys2Proof.Machine.execVmsumshs vD vA vB vC s
  | .vaddubm vD vA vB => Sys2Proof.Machine.execVaddubm vD vA vB s
  | .vmaxub vD vA vB => Sys2Proof.Machine.execVmaxub vD vA vB s
  | .vmuloub vD vA vB => Sys2Proof.Machine.execVmuloub vD vA vB s
  | .vadduhm vD vA vB => Sys2Proof.Machine.execVadduhm vD vA vB s
  | .vmaxuh vD vA vB => Sys2Proof.Machine.execVmaxuh vD vA vB s
  | .vmulouh vD vA vB => Sys2Proof.Machine.execVmulouh vD vA vB s
  | .vadduwm vD vA vB => Sys2Proof.Machine.execVadduwm vD vA vB s
  | .vmaxuw vD vA vB => Sys2Proof.Machine.execVmaxuw vD vA vB s
  | .vmaxsb vD vA vB => Sys2Proof.Machine.execVmaxsb vD vA vB s
  | .vmulosb vD vA vB => Sys2Proof.Machine.execVmulosb vD vA vB s
  | .vmaxsh vD vA vB => Sys2Proof.Machine.execVmaxsh vD vA vB s
  | .vmulosh vD vA vB => Sys2Proof.Machine.execVmulosh vD vA vB s
  | .vaddcuw vD vA vB => Sys2Proof.Machine.execVaddcuw vD vA vB s
  | .vmaxsw vD vA vB => Sys2Proof.Machine.execVmaxsw vD vA vB s
  | .vaddubs vD vA vB => Sys2Proof.Machine.execVaddubs vD vA vB s
  | .vminub vD vA vB => Sys2Proof.Machine.execVminub vD vA vB s
  | .vmuleub vD vA vB => Sys2Proof.Machine.execVmuleub vD vA vB s
  | .vadduhs vD vA vB => Sys2Proof.Machine.execVadduhs vD vA vB s
  | .vminuh vD vA vB => Sys2Proof.Machine.execVminuh vD vA vB s
  | .vmuleuh vD vA vB => Sys2Proof.Machine.execVmuleuh vD vA vB s
  | .vadduws vD vA vB => Sys2Proof.Machine.execVadduws vD vA vB s
  | .vminuw vD vA vB => Sys2Proof.Machine.execVminuw vD vA vB s
  | .vaddsbs vD vA vB => Sys2Proof.Machine.execVaddsbs vD vA vB s
  | .vminsb vD vA vB => Sys2Proof.Machine.execVminsb vD vA vB s
  | .vmulesb vD vA vB => Sys2Proof.Machine.execVmulesb vD vA vB s
  | .vaddshs vD vA vB => Sys2Proof.Machine.execVaddshs vD vA vB s
  | .vminsh vD vA vB => Sys2Proof.Machine.execVminsh vD vA vB s
  | .vmulesh vD vA vB => Sys2Proof.Machine.execVmulesh vD vA vB s
  | .vaddsws vD vA vB => Sys2Proof.Machine.execVaddsws vD vA vB s
  | .vminsw vD vA vB => Sys2Proof.Machine.execVminsw vD vA vB s
  | .vsububm vD vA vB => Sys2Proof.Machine.execVsububm vD vA vB s
  | .vavgub vD vA vB => Sys2Proof.Machine.execVavgub vD vA vB s
  | .vsubuhm vD vA vB => Sys2Proof.Machine.execVsubuhm vD vA vB s
  | .vavguh vD vA vB => Sys2Proof.Machine.execVavguh vD vA vB s
  | .vsubuwm vD vA vB => Sys2Proof.Machine.execVsubuwm vD vA vB s
  | .vavguw vD vA vB => Sys2Proof.Machine.execVavguw vD vA vB s
  | .vavgsb vD vA vB => Sys2Proof.Machine.execVavgsb vD vA vB s
  | .vavgsh vD vA vB => Sys2Proof.Machine.execVavgsh vD vA vB s
  | .vsubcuw vD vA vB => Sys2Proof.Machine.execVsubcuw vD vA vB s
  | .vavgsw vD vA vB => Sys2Proof.Machine.execVavgsw vD vA vB s
  | .vsububs vD vA vB => Sys2Proof.Machine.execVsububs vD vA vB s
  | .vsum4ubs vD vA vB => Sys2Proof.Machine.execVsum4ubs vD vA vB s
  | .vsubuhs vD vA vB => Sys2Proof.Machine.execVsubuhs vD vA vB s
  | .vsum4shs vD vA vB => Sys2Proof.Machine.execVsum4shs vD vA vB s
  | .vsubuws vD vA vB => Sys2Proof.Machine.execVsubuws vD vA vB s
  | .vsum2sws vD vA vB => Sys2Proof.Machine.execVsum2sws vD vA vB s
  | .vsubsbs vD vA vB => Sys2Proof.Machine.execVsubsbs vD vA vB s
  | .vsum4sbs vD vA vB => Sys2Proof.Machine.execVsum4sbs vD vA vB s
  | .vsubshs vD vA vB => Sys2Proof.Machine.execVsubshs vD vA vB s
  | .vsubsws vD vA vB => Sys2Proof.Machine.execVsubsws vD vA vB s
  | .vsumsws vD vA vB => Sys2Proof.Machine.execVsumsws vD vA vB s
  | .vrlb vD vA vB => Sys2Proof.Machine.execVrlb vD vA vB s
  | .vrlh vD vA vB => Sys2Proof.Machine.execVrlh vD vA vB s
  | .vrlw vD vA vB => Sys2Proof.Machine.execVrlw vD vA vB s
  | .vslb vD vA vB => Sys2Proof.Machine.execVslb vD vA vB s
  | .vslh vD vA vB => Sys2Proof.Machine.execVslh vD vA vB s
  | .vslw vD vA vB => Sys2Proof.Machine.execVslw vD vA vB s
  | .vsrb vD vA vB => Sys2Proof.Machine.execVsrb vD vA vB s
  | .vsrh vD vA vB => Sys2Proof.Machine.execVsrh vD vA vB s
  | .vsrw vD vA vB => Sys2Proof.Machine.execVsrw vD vA vB s
  | .vsrab vD vA vB => Sys2Proof.Machine.execVsrab vD vA vB s
  | .vsrah vD vA vB => Sys2Proof.Machine.execVsrah vD vA vB s
  | .vsraw vD vA vB => Sys2Proof.Machine.execVsraw vD vA vB s
  | .vand vD vA vB => Sys2Proof.Machine.execVand vD vA vB s
  | .vandc vD vA vB => Sys2Proof.Machine.execVandc vD vA vB s
  | .vor vD vA vB => Sys2Proof.Machine.execVor vD vA vB s
  | .vxor vD vA vB => Sys2Proof.Machine.execVxor vD vA vB s
  | .vnor vD vA vB => Sys2Proof.Machine.execVnor vD vA vB s
  | .vcmpequb vD vA vB rc => Sys2Proof.Machine.execVcmpequb vD vA vB rc s
  | .vcmpequh vD vA vB rc => Sys2Proof.Machine.execVcmpequh vD vA vB rc s
  | .vcmpequw vD vA vB rc => Sys2Proof.Machine.execVcmpequw vD vA vB rc s
  | .vcmpgtub vD vA vB rc => Sys2Proof.Machine.execVcmpgtub vD vA vB rc s
  | .vcmpgtuh vD vA vB rc => Sys2Proof.Machine.execVcmpgtuh vD vA vB rc s
  | .vcmpgtuw vD vA vB rc => Sys2Proof.Machine.execVcmpgtuw vD vA vB rc s
  | .vcmpgtsb vD vA vB rc => Sys2Proof.Machine.execVcmpgtsb vD vA vB rc s
  | .vcmpgtsh vD vA vB rc => Sys2Proof.Machine.execVcmpgtsh vD vA vB rc s
  | .vcmpgtsw vD vA vB rc => Sys2Proof.Machine.execVcmpgtsw vD vA vB rc s
  | .vmaddfp vD vA vB vC => Sys2Proof.Machine.execVmaddfp vD vA vB vC s
  | .vnmsubfp vD vA vB vC => Sys2Proof.Machine.execVnmsubfp vD vA vB vC s
  | .vaddfp vD vA vB => Sys2Proof.Machine.execVaddfp vD vA vB s
  | .vsubfp vD vA vB => Sys2Proof.Machine.execVsubfp vD vA vB s
  | .vrefp vD vB => Sys2Proof.Machine.execVrefp vD vB s
  | .vrsqrtefp vD vB => Sys2Proof.Machine.execVrsqrtefp vD vB s
  | .vexptefp vD vB => Sys2Proof.Machine.execVexptefp vD vB s
  | .vlogefp vD vB => Sys2Proof.Machine.execVlogefp vD vB s
  | .vrfin vD vB => Sys2Proof.Machine.execVrfin vD vB s
  | .vrfiz vD vB => Sys2Proof.Machine.execVrfiz vD vB s
  | .vrfip vD vB => Sys2Proof.Machine.execVrfip vD vB s
  | .vrfim vD vB => Sys2Proof.Machine.execVrfim vD vB s
  | .vcfux vD uimm vB => Sys2Proof.Machine.execVcfux vD uimm vB s
  | .vcfsx vD uimm vB => Sys2Proof.Machine.execVcfsx vD uimm vB s
  | .vctuxs vD uimm vB => Sys2Proof.Machine.execVctuxs vD uimm vB s
  | .vctsxs vD uimm vB => Sys2Proof.Machine.execVctsxs vD uimm vB s
  | .vmaxfp vD vA vB => Sys2Proof.Machine.execVmaxfp vD vA vB s
  | .vminfp vD vA vB => Sys2Proof.Machine.execVminfp vD vA vB s
  | .vcmpeqfp vD vA vB rc => Sys2Proof.Machine.execVcmpeqfp vD vA vB rc s
  | .vcmpgefp vD vA vB rc => Sys2Proof.Machine.execVcmpgefp vD vA vB rc s
  | .vcmpgtfp vD vA vB rc => Sys2Proof.Machine.execVcmpgtfp vD vA vB rc s
  | .vcmpbfp vD vA vB rc => Sys2Proof.Machine.execVcmpbfp vD vA vB rc s
  | .vsel vD vA vB vC => Sys2Proof.Machine.execVsel vD vA vB vC s
  | .vperm vD vA vB vC => Sys2Proof.Machine.execVperm vD vA vB vC s
  | .vsldoi vD vA vB shb => Sys2Proof.Machine.execVsldoi vD vA vB shb s
  | .vmrghb vD vA vB => Sys2Proof.Machine.execVmrghb vD vA vB s
  | .vpkuhum vD vA vB => Sys2Proof.Machine.execVpkuhum vD vA vB s
  | .vmrghh vD vA vB => Sys2Proof.Machine.execVmrghh vD vA vB s
  | .vpkuwum vD vA vB => Sys2Proof.Machine.execVpkuwum vD vA vB s
  | .vmrghw vD vA vB => Sys2Proof.Machine.execVmrghw vD vA vB s
  | .vpkuhus vD vA vB => Sys2Proof.Machine.execVpkuhus vD vA vB s
  | .vpkuwus vD vA vB => Sys2Proof.Machine.execVpkuwus vD vA vB s
  | .vmrglb vD vA vB => Sys2Proof.Machine.execVmrglb vD vA vB s
  | .vpkshus vD vA vB => Sys2Proof.Machine.execVpkshus vD vA vB s
  | .vmrglh vD vA vB => Sys2Proof.Machine.execVmrglh vD vA vB s
  | .vpkswus vD vA vB => Sys2Proof.Machine.execVpkswus vD vA vB s
  | .vmrglw vD vA vB => Sys2Proof.Machine.execVmrglw vD vA vB s
  | .vpkshss vD vA vB => Sys2Proof.Machine.execVpkshss vD vA vB s
  | .vsl vD vA vB => Sys2Proof.Machine.execVsl vD vA vB s
  | .vpkswss vD vA vB => Sys2Proof.Machine.execVpkswss vD vA vB s
  | .vspltb vD uimm vB => Sys2Proof.Machine.execVspltb vD uimm vB s
  | .vupkhsb vD vB => Sys2Proof.Machine.execVupkhsb vD vB s
  | .vsplth vD uimm vB => Sys2Proof.Machine.execVsplth vD uimm vB s
  | .vupkhsh vD vB => Sys2Proof.Machine.execVupkhsh vD vB s
  | .vspltw vD uimm vB => Sys2Proof.Machine.execVspltw vD uimm vB s
  | .vupklsb vD vB => Sys2Proof.Machine.execVupklsb vD vB s
  | .vsr vD vA vB => Sys2Proof.Machine.execVsr vD vA vB s
  | .vupklsh vD vB => Sys2Proof.Machine.execVupklsh vD vB s
  | .vspltisb vD simm => Sys2Proof.Machine.execVspltisb vD simm s
  | .vpkpx vD vA vB => Sys2Proof.Machine.execVpkpx vD vA vB s
  | .vspltish vD simm => Sys2Proof.Machine.execVspltish vD simm s
  | .vupkhpx vD vB => Sys2Proof.Machine.execVupkhpx vD vB s
  | .vspltisw vD simm => Sys2Proof.Machine.execVspltisw vD simm s
  | .vupklpx vD vB => Sys2Proof.Machine.execVupklpx vD vB s
  | .vslo vD vA vB => Sys2Proof.Machine.execVslo vD vA vB s
  | .vsro vD vA vB => Sys2Proof.Machine.execVsro vD vA vB s
  | .mfvscr vD => Sys2Proof.Machine.execMfvscr vD s
  | .mtvscr vB => Sys2Proof.Machine.execMtvscr vB s
  | .dst strm rA rB => Sys2Proof.Machine.execDst strm rA rB s
  | .dstt strm rA rB => Sys2Proof.Machine.execDstt strm rA rB s
  | .dstst strm rA rB => Sys2Proof.Machine.execDstst strm rA rB s
  | .dststt strm rA rB => Sys2Proof.Machine.execDststt strm rA rB s
  | .dss strm => Sys2Proof.Machine.execDss strm s
  | .dssall => Sys2Proof.Machine.execDssall s

end Sys2Proof.Machine
end

