-- ==== Sys2Proof/Machine/Base.lean ====
section
/-! DEFINITION. The three base PowerPC instructions with a meaning, instruction fetch, the effect of a decoded word, and the end of a step
(45_vscr_control.md R483, R484; 60_exceptions.md R524, R532; 20_memory.md R126; 70_reset_and_hazards.md R582). -/
namespace Sys2Proof.Machine

/-- `mfspr rD,256`: move from VRSAVE; no mode is checked (45_vscr_control.md R483). -/
def execMfsprVrsave (rD : GReg) (s : State) : Out :=
  .next (s.writeG rD s.vrsave).advance

/-- `mtspr 256,rS`: move to VRSAVE; no mode is checked (45_vscr_control.md R484). -/
def execMtsprVrsave (rS : GReg) (s : State) : Out :=
  .next ({ s with vrsave := s.readG rS } : State).advance

/-- `rfi`: return from exception; in user mode the program exception instead (60_exceptions.md R532, D21). Log 14. -/
def execRfi (s : State) : Out :=
  if s.pr then .next s.takePrivileged else .next s.returnFromException

/-- The effect of a base instruction. -/
def execBase (b : BaseInstr) (s : State) : Out :=
  match b with
  | .mfsprVrsave rD => execMfsprVrsave rD s
  | .mtsprVrsave rS => execMtsprVrsave rS s
  | .rfi => execRfi s

/-- The name under which a word is refused (70_reset_and_hazards.md R581, D16, D25). -/
def refusalOf (r : Rejection) : Refusal :=
  match r with
  | .reservedField => .reservedField
  | .outsideSpec => .outsideSpec
  | .tooShort => .outsideSpec

/-- The effect of a decoded word (70_reset_and_hazards.md R582). -/
def execDecoded (d : Decoded) (s : State) : Out :=
  match d with
  | .instr i => exec i s
  | .base b => execBase b s
  | .illegal => .next s.takeIllegal
  | .rejected r => .refused (refusalOf r)

/-- The end of a step: the prefetch engine acts on the state that the instruction has left (46_data_stream.md R494, "at any time").
Log 23. -/
def afterStep (o : Out) : Out :=
  match o with
  | .next t => .next t.prefetch
  | .fault f => .fault f
  | .refused r => .refused r

/-- Where the instruction word at pc lies in memory: the 4-byte address modification applies to fetches too (20_memory.md R126,
D7). Log 19. -/
def State.fetchAddr (s : State) : Word := s.munge 4 s.pc

/-- The instruction word at pc, of the current memory (20_memory.md R126, D14). Log 26. -/
def State.fetchWord (s : State) : Word := s.memRead s.fetchAddr 4

/-- Memory with the instruction word `w` where the next fetch reads it. -/
def State.placeWord (s : State) (w : Word) : State := s.memWrite s.fetchAddr 4 w

end Sys2Proof.Machine
end

