-- ==== Sys2Proof/Machine/Step.lean ====
section
/-! DEFINITION. One step of the machine (70_reset_and_hazards.md R582; 00_scope.md R20). -/
namespace Sys2Proof.Machine

/-- Fetch, decode and execute the instruction at pc; then the prefetch engine acts (log 23). The end of a run at P_STOP_PC
is tested by `State.run` around it (log 27). -/
def step (s : State) : Host.Outcome State Fault Refusal := afterStep (execDecoded (decodeWord s.fetchWord) s)

/-- `s` with the instruction whose bits are `w` stored where `step` fetches next; bits from `nbits` up are zero. -/
def State.withFetchWord (s : State) (nbits w : Nat) : State := s.placeWord (BitVec.ofNat 32 (w % 2 ^ nbits))

end Sys2Proof.Machine
end

