-- ==== Sys2Proof/Machine/Run.lean ====
section
/-! DEFINITION. A run: steps from a launch state up to P_STOP_PC or to a step bound (70_reset_and_hazards.md R580 to R582, D24). -/
namespace Sys2Proof.Machine

/-- How a run ends; each constructor holds "the whole architectural state at that point" (70_reset_and_hazards.md R580). -/
inductive RunEnd where
  /-- end(normal): pc is P_STOP_PC, before a fetch (R582). -/
  | normal (s : State)
  /-- The step bound is reached and pc is not P_STOP_PC (R580). -/
  | bound (s : State)
  /-- The step from `s` faults; no step of this model does. -/
  | fault (f : Fault) (s : State)
  /-- The word at pc is outside the spec, which is "distinct from a normal end and from an architectural exception" (R581). -/
  | refused (r : Refusal) (s : State)
  deriving DecidableEq, Repr

/-- The state in which a run ends. -/
def RunEnd.state (e : RunEnd) : State :=
  match e with
  | .normal s => s
  | .bound s => s
  | .fault _ s => s
  | .refused _ s => s

/-- The outcomes of one step of a run in the order in which R582 tests them: `none` is end(normal), before the fetch. -/
def State.stepOrEnd (s : State) (stopPc : Word) : Option Out := if s.pc = stopPc then none else some (step s)

/-- A run of at most `n` steps that ends normally at `stopPc` (R580). P_STOP_PC is tested before the bound: log 27. -/
def State.run (stopPc : Word) (n : Nat) (s : State) : RunEnd :=
  match n with
  | 0 => if s.pc = stopPc then .normal s else .bound s
  | k + 1 =>
    match s.stepOrEnd stopPc with
    | none => .normal s
    | some (.next t) => t.run stopPc k
    | some (.fault f) => .fault f s
    | some (.refused r) => .refused r s

end Sys2Proof.Machine
end

