-- ==== Sys2Proof/Safety.lean ====
section
/-! DEFINITION. What a safe run is, in the terms the statements use: the invariant of the machine, and what an instruction leaves
unchanged. -/
namespace Sys2Proof.Machine

/-! ## The invariant -/

/-- A stream within the ranges of 46_data_stream.md R490, and not yet completed (R494). -/
def Stream.legal (st : Stream) : Prop :=
  1 ≤ st.size ∧ st.size ≤ 32 ∧ 1 ≤ st.count ∧ st.count ≤ 256 ∧ -32768 ≤ st.stride ∧ st.stride ≤ 32768 ∧ st.stride ≠ 0 ∧
    st.progress < st.count

/-- The invariant: memory is in canonical form, "the two low bits of CIA are 0" (10_state.md R59), and every slot that is not empty
holds a legal stream (46_data_stream.md R490). -/
def State.Inv (s : State) : Prop :=
  Memory.wf s.mem = true ∧ s.pc.toNat % 4 = 0 ∧ ∀ (k : StreamId) (st : Stream), s.streams.get k = some st → st.legal

/-! ## Which instruction may do what -/

/-- The six stream mnemonics (46_data_stream.md R492). -/
def isStream (i : Instr) : Bool :=
  match i with
  | .dst _ _ _ | .dstt _ _ _ | .dstst _ _ _ | .dststt _ _ _ | .dss _ | .dssall => true
  | _ => false

/-- The instructions that can set VSCR[SAT], mtvscr apart (10_state.md R47). -/
def saturates (i : Instr) : Bool :=
  match i with
  | .vaddubs _ _ _ | .vadduhs _ _ _ | .vadduws _ _ _ | .vaddsbs _ _ _ | .vaddshs _ _ _ | .vaddsws _ _ _ => true
  | .vsububs _ _ _ | .vsubuhs _ _ _ | .vsubuws _ _ _ | .vsubsbs _ _ _ | .vsubshs _ _ _ | .vsubsws _ _ _ => true
  | .vmhaddshs _ _ _ _ | .vmhraddshs _ _ _ _ | .vmsumuhs _ _ _ _ | .vmsumshs _ _ _ _ => true
  | .vsumsws _ _ _ | .vsum2sws _ _ _ | .vsum4sbs _ _ _ | .vsum4shs _ _ _ | .vsum4ubs _ _ _ => true
  | .vpkuhus _ _ _ | .vpkuwus _ _ _ | .vpkshus _ _ _ | .vpkswus _ _ _ | .vpkshss _ _ _ | .vpkswss _ _ _ => true
  | .vctuxs _ _ _ | .vctsxs _ _ _ => true
  | _ => false

/-- The compares with the record bit Rc = 1, which alone write CR (10_state.md R55). -/
def isRecordCompare (i : Instr) : Bool :=
  match i with
  | .vcmpequb _ _ _ rc | .vcmpequh _ _ _ rc | .vcmpequw _ _ _ rc | .vcmpgtub _ _ _ rc | .vcmpgtuh _ _ _ rc => rc
  | .vcmpgtuw _ _ _ rc | .vcmpgtsb _ _ _ rc | .vcmpgtsh _ _ _ rc | .vcmpgtsw _ _ _ rc => rc
  | .vcmpeqfp _ _ _ rc | .vcmpgefp _ _ _ rc | .vcmpgtfp _ _ _ rc | .vcmpbfp _ _ _ rc => rc
  | _ => false

/-- The five instructions that write memory (40_load_store.md R180). -/
def storesMemory (i : Instr) : Bool :=
  match i with
  | .stvebx _ _ _ | .stvehx _ _ _ | .stvewx _ _ _ | .stvx _ _ _ | .stvxl _ _ _ => true
  | _ => false

/-! ## Frames -/

/-- What no instruction of the table ever writes: the general registers, VRSAVE, DAR, DSISR and the registers of 10_state.md R71. -/
def RegistersKept (s t : State) : Prop :=
  t.gpr = s.gpr ∧ t.vrsave = s.vrsave ∧ t.dar = s.dar ∧ t.dsisr = s.dsisr ∧ t.base = s.base

/-- No exception has been taken: pc is the next instruction's, and MSR, SRR0 and SRR1 are as before. -/
def Completed (s t : State) : Prop := t.pc = s.pc + 4 ∧ t.msr = s.msr ∧ t.srr0 = s.srr0 ∧ t.srr1 = s.srr1

/-- MSR after an exception entry (60_exceptions.md R514): VEC, POW, EE, PR, FP, FE0, SE, BE, FE1, IR, DR and RI are 0, LE is the old
ILE, and every other bit is unchanged, the reserved ones by D12 (log 12). -/
def EnteredMSR (s t : State) : Prop :=
  ∀ b, b < 32 → wordBit t.msr b =
    if b = 31 then wordBit s.msr 15 else if b ∈ [6, 13, 16, 17, 18, 20, 21, 22, 23, 26, 27, 30] then false else wordBit s.msr b

/-- Every byte of memory reads as before. -/
def MemoryKept (s t : State) : Prop := ∀ a : Word, t.byte a = s.byte a

/-- Every vector register but `vD` is as before. -/
def VectorsKeptBut (vD : VReg) (s t : State) : Prop := ∀ r : VReg, r ≠ vD → t.readV r = s.readV r

/-- The instruction completed and wrote nothing but `vD` and, perhaps, CR and VSCR. The stream slots are as before, since the
prefetch engine, which may empty a slot at any time (46_data_stream.md R494), acts after the instruction: log 23. -/
def WroteVector (vD : VReg) (s t : State) : Prop :=
  Completed s t ∧ RegistersKept s t ∧ VectorsKeptBut vD s t ∧ MemoryKept s t ∧ t.streams = s.streams

/-- The instruction completed and wrote nothing but `vD`. -/
def WroteOnly (vD : VReg) (s t : State) : Prop := WroteVector vD s t ∧ t.cr = s.cr ∧ t.vscr = s.vscr

/-- The instruction completed and wrote nothing but, perhaps, memory. The stream slots are as before: log 23. -/
def WroteMemory (s t : State) : Prop :=
  Completed s t ∧ RegistersKept s t ∧ t.vr = s.vr ∧ t.streams = s.streams ∧ t.cr = s.cr ∧ t.vscr = s.vscr

/-! ## Results -/

/-- The instruction completes: element `k` of width `n` of `vD` is `f k`, and nothing else changes. -/
def Gives (i : Instr) (s : State) (vD : VReg) (n : Nat) (f : Nat → BitVec n) : Prop :=
  ∃ t, exec i s = .next t ∧ (∀ k, k < 128 / n → elem n k (t.readV vD) = f k) ∧ WroteOnly vD s t

/-- The instruction completes: element `k` of width `n` of `vD` is the exact integer `x k` brought into range by `clamp`, VSCR[SAT]
is set where an element is not in range and keeps its value otherwise, and nothing else changes (10_state.md R46). -/
def GivesClamped (i : Instr) (s : State) (vD : VReg) (n : Nat) (clamp x : Nat → Int) : Prop :=
  ∃ t, exec i s = .next t ∧ (∀ k, k < 128 / n → elem n k (t.readV vD) = BitVec.ofInt n (clamp k)) ∧
    (t.sat = true ↔ s.sat = true ∨ ∃ k, k < 128 / n ∧ clamp k ≠ x k) ∧
    (∀ b, b < 31 → wordBit t.vscrValue b = wordBit s.vscrValue b) ∧ WroteVector vD s t ∧ t.cr = s.cr

/-- `x` brought into the range of `n` unsigned bits. -/
def clampU (n : Nat) (x : Int) : Int := max 0 (min (2 ^ n - 1) x)

/-- `x` brought into the range of `n` signed bits. -/
def clampS (n : Nat) (x : Int) : Int := max (-2 ^ (n - 1)) (min (2 ^ (n - 1) - 1) x)

/-- A saturating instruction with unsigned result elements. -/
def GivesUnsigned (i : Instr) (s : State) (vD : VReg) (n : Nat) (x : Nat → Int) : Prop :=
  GivesClamped i s vD n (fun k => clampU n (x k)) x

/-- A saturating instruction with signed result elements. -/
def GivesSigned (i : Instr) (s : State) (vD : VReg) (n : Nat) (x : Nat → Int) : Prop :=
  GivesClamped i s vD n (fun k => clampS n (x k)) x

/-- A compare completes: element `k` of `vD` is all ones where the relation `p k` holds and zeros elsewhere; with Rc = 1 CR field
6 tells whether it holds for all pairs and whether for none; nothing else changes (10_state.md R56). -/
def GivesCompare (i : Instr) (s : State) (vD : VReg) (rc : Bool) (n : Nat) (p : Nat → Prop) : Prop :=
  ∃ t, exec i s = .next t ∧
    (∀ k, k < 128 / n → (p k → elem n k (t.readV vD) = BitVec.allOnes n) ∧ (¬ p k → elem n k (t.readV vD) = 0)) ∧
    (rc = false → t.cr = s.cr) ∧
    (rc = true → (∀ b, b < 32 → (b < 24 ∨ 27 < b) → wordBit t.cr b = wordBit s.cr b) ∧
      (wordBit t.cr 24 = true ↔ ∀ k, k < 128 / n → p k) ∧ wordBit t.cr 25 = false ∧
      (wordBit t.cr 26 = true ↔ ∀ k, k < 128 / n → ¬ p k) ∧ wordBit t.cr 27 = false) ∧
    WroteVector vD s t ∧ t.vscr = s.vscr

/-! ## Memory as a program sees it (20_memory.md R110) -/

/-- Where in memory the byte lies that the program sees at `a`: `a` itself, or `a ^ 7` in little-endian mode. -/
def State.bus (s : State) (a : Word) : Word := if s.le then a ^^^ 7 else a

/-- The byte of a register that is paired with byte `p` of the aligned quad word: byte `p`, or byte 15 - p in little-endian mode. -/
def State.regByte (s : State) (p : Nat) : Nat := if s.le then 15 - p else p

/-! ## Floating-point operands (43_float.md R363, R365) -/

/-- Neither a NaN nor an infinity. -/
def fpFinite (w : Word) : Bool := fpExp w != 255

end Sys2Proof.Machine
end

