-- ==== Sys2Proof/WellFormed.lean ====
section
/-! DEFINITION. Which instructions are in valid form. The types of the operands hold every field to its width; the one rule the
spec adds is that a touch instruction names no zero rA field (30_encoding.md R160, 46_data_stream.md R493). -/
namespace Sys2Proof

/-- The instruction is in valid form: "if rA=0, the instruction form is invalid" for the four touch instructions
(30_encoding.md R160). Every other combination of field values is a valid form. -/
def Instr.wf (i : Instr) : Bool :=
  match i with
  | .dst _ rA _ | .dstt _ rA _ | .dstst _ rA _ | .dststt _ rA _ => rA != 0
  | _ => true

end Sys2Proof
end

