-- ==== Sys2Proof/Certificates/Slice0/Obligations.lean ====
section
/-! DEFINITION. The statements for the provers; each says in its docstring which rules of the spec it formalises. -/
section
open Sys2Proof Sys2Proof.Machine

/-- Decoding the bytes of an encoded instruction gives the instruction back (30_encoding.md R142 to R157, 30_encoding.md R164). -/
def Obligations.DecodeOfEncode : Prop :=
    ∀ (i : Instr) (rest : List Byte), i.wf = true → decode (encodeBytes i ++ rest) = .instr i

/-- A word that decodes to an instruction is the word the encoder writes for it (30_encoding.md R153 to R157, 30_encoding.md R159, 46_data_stream.md R507). That reserved fields must be zero is the model's choice after D16 (log 16); dssall ignores STRM (log 17). -/
def Obligations.EncodeOfDecode : Prop :=
    ∀ (w : Word) (i : Instr), decodeWord w = .instr i → i ≠ .dssall → encode i = w

/-- Words written out from the encodings decode to the instructions they stand for (30_encoding.md R165, 30_encoding.md R158, 30_encoding.md R159, 95_test_vectors.md 2.1). That a reserved field or a word outside the spec is refused is the model's choice after D16 and D25 (log 16, log 17). -/
def Obligations.DecodeOfSpecWords : Prop :=
    decodeWord 0x10611000 = .instr (.vaddubm 3 1 2) ∧
    decodeWord 0x10011406 = .instr (.vcmpequb 0 1 2 true) ∧
    decodeWord 0x108110EE = .instr (.vmaddfp 4 1 2 3) ∧
    decodeWord 0x1081116C = .instr (.vsldoi 4 1 2 5) ∧
    decodeWord 0x101F030C = .instr (.vspltisb 0 (-1)) ∧
    decodeWord 0x10003E44 = .instr (.mtvscr 7) ∧
    decodeWord 0x7C2018CE = .instr (.lvx 1 0 3) ∧
    decodeWord 0x7E4322AC = .instr (.dstt 2 3 4) ∧
    decodeWord 0x7C20066C = .instr (.dss 1) ∧
    decodeWord 0x1000003F = .illegal ∧
    decodeWord 0x1081156C = .rejected .reservedField ∧
    decodeWord 0x38600001 = .rejected .outsideSpec

/-- A step runs the instruction that the four bytes at the program counter decode to, and a run is such steps up to P_STOP_PC (70_reset_and_hazards.md R582, 70_reset_and_hazards.md R580, 20_memory.md R126, 46_data_stream.md R494). Fetching at pc XOR 4 in little-endian mode is the model's choice after D7 (log 19), and fetch reads current memory (log 26); the prefetch engine after the step is log 23, and the end of a run is the spec's decision D24 (log 27). -/
def Obligations.StepRunsTheDecodedInstruction : Prop :=
    ∀ (s : State) (stop : Word),
    let a : Word := if s.le then s.pc ^^^ 4 else s.pc
    let d := decode [s.byte a, s.byte (a + 1), s.byte (a + 2), s.byte (a + 3)]
    (∀ i t, d = .instr i → exec i s = .next t →
      step s = .next t.prefetch ∧ (s.pc ≠ stop → ∀ n, s.run stop (n + 1) = t.prefetch.run stop n)) ∧
    (∀ n, s.pc = stop → s.run stop n = .normal s) ∧
    (s.pc ≠ stop → s.run stop 0 = .bound s) ∧
    (∀ n t, s.run stop n = .normal t → t.pc = stop) ∧
    (∀ m n t, s.run stop m = .bound t → t.pc ≠ stop ∧ s.run stop (m + n) = t.run stop n)

/-- What a step does with a word that is no instruction of the table (70_reset_and_hazards.md R581, 70_reset_and_hazards.md R582, 60_exceptions.md R524, 60_exceptions.md R514). The model's choices: the program exception's vector and cause bit (log 13), the vector base (log 11), the refusals (log 16, log 17), little-endian fetch (log 19), the reserved MSR bits (log 12), the prefetch engine after the step (log 23), the run (log 27). -/
def Obligations.StepOfOtherWords : Prop :=
    ∀ s : State,
    let a : Word := if s.le then s.pc ^^^ 4 else s.pc
    let d := decode [s.byte a, s.byte (a + 1), s.byte (a + 2), s.byte (a + 3)]
    (∀ b, d = .base b → ∃ t, execBase b s = .next t ∧ step s = .next t.prefetch) ∧
    (d = .illegal → ∃ t, step s = .next t.prefetch ∧ t.srr0 = s.pc ∧ t.pc = s.vectorBase + 0x700 ∧
      t.srr1 = (s.msr &&& 0x87C0FFFF) ||| 0x00080000 ∧ EnteredMSR s t ∧ t.vr = s.vr ∧ t.vscr = s.vscr ∧ t.cr = s.cr ∧
      t.streams = s.streams ∧ RegistersKept s t ∧ MemoryKept s t) ∧
    (d = .rejected .reservedField → step s = .refused .reservedField ∧
      ∀ stop n, s.pc ≠ stop → s.run stop (n + 1) = .refused .reservedField s) ∧
    (d = .rejected .outsideSpec → step s = .refused .outsideSpec ∧
      ∀ stop n, s.pc ≠ stop → s.run stop (n + 1) = .refused .outsideSpec s)

/-- The machine right after reset meets the invariant, and what the spec states of reset holds (70_reset_and_hazards.md R551, 10_state.md R73, 10_state.md R59). That pc is aligned and memory canonical at reset rests on the model's own reset values (log 1, log 4). -/
def Obligations.ResetMeetsTheInvariant : Prop :=
    State.reset.Inv ∧ State.reset.vrsave = 0 ∧ ∀ k : StreamId, State.reset.streams.get k = none

/-- Every step keeps memory canonical, the program counter aligned and the streams legal (10_state.md R59, 46_data_stream.md R490, 46_data_stream.md R494, 60_exceptions.md R513, 60_exceptions.md R532). It rests on the model's vectors (log 11, log 13), on what rfi restores (log 14) and on the account of the streams (log 23). -/
def Obligations.StepKeepsTheInvariant : Prop :=
    ∀ s t : State, s.Inv → step s = .next t → t.Inv

/-- Every instruction answers a next state, and with AltiVec available it completes (10_state.md R59, 10_state.md R62, 10_state.md R63, 46_data_stream.md R492, 60_exceptions.md R510, 60_exceptions.md R521, 60_exceptions.md R522). That no access meets a DSI is the model's choice after D9 and D13 (log 21, log 22). -/
def Obligations.EveryInstructionCompletes : Prop :=
    ∀ (i : Instr) (s : State), ∃ t, exec i s = .next t ∧ (s.vec = true ∨ isStream i = true → Completed s t)

/-- No instruction writes a general register, and CR and memory change only where the spec says so (10_state.md R55, 10_state.md R58, 10_state.md R54, 40_load_store.md R180). It rests on the model's choices that no DSI arises (log 21, log 22) and that the registers of R71 are kept (log 31). -/
def Obligations.ExecKeepsTheOtherRegisters : Prop :=
    ∀ (i : Instr) (s t : State), exec i s = .next t →
    RegistersKept s t ∧
    (∀ b, b < 32 → (b < 24 ∨ 27 < b) → wordBit t.cr b = wordBit s.cr b) ∧
    (isRecordCompare i = false → t.cr = s.cr) ∧
    (storesMemory i = false → MemoryKept s t)

/-- VSCR[SAT] stays set until mtvscr, and only the saturating instructions touch VSCR (10_state.md R46, 10_state.md R47, 10_state.md R49). How NJ is read without Java mode is log 7. -/
def Obligations.SaturationIsSticky : Prop :=
    ∀ (i : Instr) (s t : State), (∀ vB, i ≠ .mtvscr vB) → exec i s = .next t →
    (s.sat = true → t.sat = true) ∧
    (saturates i = false → t.vscr = s.vscr) ∧
    (∀ b, b < 31 → wordBit t.vscrValue b = wordBit s.vscrValue b)

/-- The AltiVec unavailable exception saves the instruction's address and the MSR bits the spec lists (60_exceptions.md R515, 60_exceptions.md R516). That no additional MSR bit is copied to SRR1 is the model's choice after D12 (log 12). -/
def Obligations.UnavailableSavesTheStatus : Prop :=
    ∀ (i : Instr) (s : State), isStream i = false → s.vec = false → ∃ t, exec i s = .next t ∧ t.srr0 = s.pc ∧
    ∀ b, b < 32 → wordBit t.srr1 b = (wordBit s.msr b && (b == 0 || (5 ≤ b && b ≤ 9) || 16 ≤ b))

/-- Taking the AltiVec unavailable exception: MSR, the vector, and everything else kept (60_exceptions.md R512, 60_exceptions.md R513, 60_exceptions.md R514, 60_exceptions.md R517). The vector bases (log 11) and the unchanged reserved MSR bits (log 12) are the model's choice after D11 and D12; that the slots are as before is log 23. -/
def Obligations.UnavailableEntry : Prop :=
    ∀ (i : Instr) (s : State), isStream i = false → s.vec = false → ∃ t, exec i s = .next t ∧
    EnteredMSR s t ∧
    t.pc = (if wordBit s.msr 25 then 0xFFF00F20 else 0x00000F20) ∧
    t.vr = s.vr ∧ t.vscr = s.vscr ∧ t.cr = s.cr ∧ t.streams = s.streams ∧ RegistersKept s t ∧ MemoryKept s t

/-- An exception entry followed by rfi resumes the interrupted instruction (60_exceptions.md R514, 60_exceptions.md R515, 60_exceptions.md R516, 60_exceptions.md R517, 60_exceptions.md R532). What rfi restores (log 14) and that an entry leaves the reserved MSR bits unchanged and saves no others (log 12) are the model's choice after D21 and D12; that the slots are as before is log 23. -/
def Obligations.EntryThenReturn : Prop :=
    ∀ (i : Instr) (s t : State), isStream i = false → s.vec = false → exec i s = .next t →
    ∃ u, execBase .rfi t = .next u ∧ u.pc = s.pc &&& 0xFFFFFFFC ∧ u.msr = s.msr &&& 0xFFFBFFFF ∧
      u.vr = s.vr ∧ u.vscr = s.vscr ∧ u.cr = s.cr ∧ u.streams = s.streams ∧ RegistersKept s u ∧ MemoryKept s u

/-- rfi restores the saved MSR bits in supervisor mode and traps in user mode (60_exceptions.md R532, 60_exceptions.md R524, 60_exceptions.md R514). The mask of rfi (log 14), the vector base (log 11) and the program exception's vector and cause bit (log 13) are the model's choice after D21 and D23; the reserved MSR bits are log 12, and that the slots are as before is log 23. -/
def Obligations.ReturnFromException : Prop :=
    ∀ s : State,
    (s.pr = false → ∃ t, execBase .rfi s = .next t ∧ t.pc = s.srr0 &&& 0xFFFFFFFC ∧
      (∀ b, b < 32 → wordBit t.msr b =
        if b == 0 || (5 ≤ b && b ≤ 9) || 16 ≤ b then wordBit s.srr1 b else wordBit s.msr b) ∧
      t.srr0 = s.srr0 ∧ t.srr1 = s.srr1 ∧ t.vr = s.vr ∧ t.vscr = s.vscr ∧ t.cr = s.cr ∧ t.streams = s.streams ∧
      RegistersKept s t ∧ MemoryKept s t) ∧
    (s.pr = true → ∃ t, execBase .rfi s = .next t ∧ t.pc = s.vectorBase + 0x700 ∧ t.srr0 = s.pc ∧
      t.srr1 = (s.msr &&& 0x87C0FFFF) ||| 0x00040000 ∧ EnteredMSR s t ∧ t.vr = s.vr ∧ t.vscr = s.vscr ∧ t.cr = s.cr ∧
      t.streams = s.streams ∧ RegistersKept s t ∧ MemoryKept s t)

/-- The moves to and from VRSAVE, in every mode (45_vscr_control.md R483, 45_vscr_control.md R484, 10_state.md R54). That the slots are as before is the model's account of the streams (log 23). -/
def Obligations.VrsaveMoves : Prop :=
    ∀ (s : State) (r : GReg),
    (∃ t, execBase (.mfsprVrsave r) s = .next t ∧ t.readG r = s.vrsave ∧ (∀ q, q ≠ r → t.readG q = s.readG q) ∧
      Completed s t ∧ t.vrsave = s.vrsave ∧ t.dar = s.dar ∧ t.dsisr = s.dsisr ∧ t.base = s.base ∧ t.vr = s.vr ∧
      t.vscr = s.vscr ∧ t.cr = s.cr ∧ t.streams = s.streams ∧ MemoryKept s t) ∧
    (∃ t, execBase (.mtsprVrsave r) s = .next t ∧ t.vrsave = s.readG r ∧ t.gpr = s.gpr ∧ Completed s t ∧ t.dar = s.dar ∧
      t.dsisr = s.dsisr ∧ t.base = s.base ∧ t.vr = s.vr ∧ t.vscr = s.vscr ∧ t.cr = s.cr ∧ t.streams = s.streams ∧ MemoryKept s t)

/-- The effective address of a vector access: the sum of two registers, its low bits zero (20_memory.md R94, 20_memory.md R96). -/
def Obligations.EffectiveAddress : Prop :=
    ∀ (s : State) (rA rB : GReg),
    let sum : Word := (if rA = 0 then 0 else s.readG rA) + s.readG rB
    s.eaSum rA rB = sum ∧ s.ea 1 rA rB = sum ∧ s.ea 2 rA rB = sum &&& 0xFFFFFFFE ∧ s.ea 4 rA rB = sum &&& 0xFFFFFFFC ∧
      s.ea 16 rA rB = sum &&& 0xFFFFFFF0

/-- lvx and lvxl load the aligned quad word, in either byte order (40_load_store.md R185, 40_load_store.md R186, 20_memory.md R105, 20_memory.md R108, 20_memory.md R110). That no DSI arises is the model's choice after D9 and D13 (log 21, log 22); the LRU hint has no effect (log 33). -/
def Obligations.QuadWordLoads : Prop :=
    ∀ (s : State) (vD : VReg) (rA rB : GReg), s.vec = true →
    ∀ i ∈ [Instr.lvx vD rA rB, Instr.lvxl vD rA rB], ∃ t, exec i s = .next t ∧
      (∀ j, j < 16 → elem 8 (s.regByte j) (t.readV vD) = s.byte (s.bus (s.ea 16 rA rB + BitVec.ofNat 32 j))) ∧ WroteOnly vD s t

/-- stvx and stvxl store the register to the aligned quad word, and no other byte changes (40_load_store.md R192, 40_load_store.md R193, 20_memory.md R105, 20_memory.md R108, 20_memory.md R110). That no DSI arises is the model's choice after D9 and D13 (log 21, log 22); the LRU hint has no effect (log 33). -/
def Obligations.QuadWordStores : Prop :=
    ∀ (s : State) (vS : VReg) (rA rB : GReg), s.vec = true → Memory.wf s.mem = true →
    ∀ i ∈ [Instr.stvx vS rA rB, Instr.stvxl vS rA rB], ∃ t, exec i s = .next t ∧
      (∀ j, j < 16 → t.byte (s.bus (s.ea 16 rA rB + BitVec.ofNat 32 j)) = elem 8 (s.regByte j) (s.readV vS)) ∧
      (∀ a, (∀ j, j < 16 → a ≠ s.bus (s.ea 16 rA rB + BitVec.ofNat 32 j)) → t.byte a = s.byte a) ∧ WroteMemory s t

/-- lvebx, lvehx and lvewx load the addressed element into its place, in either byte order (40_load_store.md R182, 40_load_store.md R183, 40_load_store.md R184, 20_memory.md R105, 20_memory.md R109, 20_memory.md R112). That no DSI arises is the model's choice after D9 and D13 (log 21, log 22). -/
def Obligations.ElementLoads : Prop :=
    ∀ (s : State) (vD : VReg) (rA rB : GReg), s.vec = true →
    ∀ p ∈ [(Instr.lvebx vD rA rB, 1), (Instr.lvehx vD rA rB, 2), (Instr.lvewx vD rA rB, 4)],
      let ea := s.ea p.2 rA rB
      ∃ t, exec p.1 s = .next t ∧
        (∀ j, j < p.2 → elem 8 (s.regByte (ea.toNat % 16 + j)) (t.readV vD) = s.byte (s.bus (ea + BitVec.ofNat 32 j))) ∧ WroteOnly vD s t

/-- stvebx, stvehx and stvewx store the addressed element, and no other byte changes (40_load_store.md R189, 40_load_store.md R190, 40_load_store.md R191, 20_memory.md R105, 20_memory.md R109, 20_memory.md R112). That no DSI arises is the model's choice after D9 and D13 (log 21, log 22). -/
def Obligations.ElementStores : Prop :=
    ∀ (s : State) (vS : VReg) (rA rB : GReg), s.vec = true → Memory.wf s.mem = true →
    ∀ p ∈ [(Instr.stvebx vS rA rB, 1), (Instr.stvehx vS rA rB, 2), (Instr.stvewx vS rA rB, 4)],
      let ea := s.ea p.2 rA rB
      ∃ t, exec p.1 s = .next t ∧
        (∀ j, j < p.2 → t.byte (s.bus (ea + BitVec.ofNat 32 j)) = elem 8 (s.regByte (ea.toNat % 16 + j)) (s.readV vS)) ∧
        (∀ a, (∀ j, j < p.2 → a ≠ s.bus (ea + BitVec.ofNat 32 j)) → t.byte a = s.byte a) ∧ WroteMemory s t

/-- An element load or store touches the element the whole quad word's load or store would (20_memory.md R111). That no DSI arises, so that the accesses complete, is the model's choice after D9 and D13 (log 21, log 22). -/
def Obligations.ElementAccessAgreesWithQuadWord : Prop :=
    ∀ (s : State) (v : VReg) (rA rB : GReg), s.vec = true → Memory.wf s.mem = true →
    (∃ u, exec (.lvx v rA rB) s = .next u ∧
      (∃ t, exec (.lvebx v rA rB) s = .next t ∧
        elem 8 (s.lane 1 (s.ea 1 rA rB)) (t.readV v) = elem 8 (s.lane 1 (s.ea 1 rA rB)) (u.readV v)) ∧
      (∃ t, exec (.lvehx v rA rB) s = .next t ∧
        elem 16 (s.lane 2 (s.ea 2 rA rB)) (t.readV v) = elem 16 (s.lane 2 (s.ea 2 rA rB)) (u.readV v)) ∧
      (∃ t, exec (.lvewx v rA rB) s = .next t ∧
        elem 32 (s.lane 4 (s.ea 4 rA rB)) (t.readV v) = elem 32 (s.lane 4 (s.ea 4 rA rB)) (u.readV v))) ∧
    (∃ u, exec (.stvx v rA rB) s = .next u ∧
      ∀ p ∈ [(Instr.stvebx v rA rB, 1), (Instr.stvehx v rA rB, 2), (Instr.stvewx v rA rB, 4)], ∃ t, exec p.1 s = .next t ∧
        ∀ j, j < p.2 → t.byte (s.munge p.2 (s.ea p.2 rA rB) + BitVec.ofNat 32 j) = u.byte (s.munge p.2 (s.ea p.2 rA rB) + BitVec.ofNat 32 j))

/-- lvsl and lvsr give the control vectors of the address's offset, without an access (40_load_store.md R187, 40_load_store.md R188). -/
def Obligations.AlignmentControls : Prop :=
    ∀ (s : State) (vD : VReg) (rA rB : GReg), s.vec = true →
    let sh := ((if rA = 0 then 0 else s.readG rA) + s.readG rB).toNat % 16
    Gives (.lvsl vD rA rB) s vD 8 (fun j => BitVec.ofNat 8 (sh + j)) ∧
    Gives (.lvsr vD rA rB) s vD 8 (fun j => BitVec.ofNat 8 (16 - sh + j))

/-- The modulo adds and subtracts, and the carry and borrow of words (41_int_arith.md R226 to R229, 41_int_arith.md R236 to R239, 41_int_arith.md R220). -/
def Obligations.AddSubtractModulo : Prop :=
    ∀ (s : State) (vD vA vB : VReg), s.vec = true →
    let A := s.readV vA
    let B := s.readV vB
    Gives (.vaddubm vD vA vB) s vD 8 (fun k => elem 8 k A + elem 8 k B) ∧
    Gives (.vadduhm vD vA vB) s vD 16 (fun k => elem 16 k A + elem 16 k B) ∧
    Gives (.vadduwm vD vA vB) s vD 32 (fun k => elem 32 k A + elem 32 k B) ∧
    Gives (.vsububm vD vA vB) s vD 8 (fun k => elem 8 k A - elem 8 k B) ∧
    Gives (.vsubuhm vD vA vB) s vD 16 (fun k => elem 16 k A - elem 16 k B) ∧
    Gives (.vsubuwm vD vA vB) s vD 32 (fun k => elem 32 k A - elem 32 k B) ∧
    Gives (.vaddcuw vD vA vB) s vD 32 (fun k => if (elem 32 k A).toNat + (elem 32 k B).toNat < 2 ^ 32 then 0 else 1) ∧
    Gives (.vsubcuw vD vA vB) s vD 32 (fun k => if (elem 32 k A).toNat < (elem 32 k B).toNat then 0 else 1)

/-- The saturating adds and subtracts clamp and record saturation (41_int_arith.md R230 to R235, 41_int_arith.md R240 to R245, 41_int_arith.md R223 to R225, 10_state.md R46). -/
def Obligations.AddSubtractSaturate : Prop :=
    ∀ (s : State) (vD vA vB : VReg), s.vec = true →
    let A := s.readV vA
    let B := s.readV vB
    GivesUnsigned (.vaddubs vD vA vB) s vD 8 (fun k => ((elem 8 k A).toNat : Int) + (elem 8 k B).toNat) ∧
    GivesSigned (.vaddsbs vD vA vB) s vD 8 (fun k => (elem 8 k A).toInt + (elem 8 k B).toInt) ∧
    GivesUnsigned (.vadduhs vD vA vB) s vD 16 (fun k => ((elem 16 k A).toNat : Int) + (elem 16 k B).toNat) ∧
    GivesSigned (.vaddshs vD vA vB) s vD 16 (fun k => (elem 16 k A).toInt + (elem 16 k B).toInt) ∧
    GivesUnsigned (.vadduws vD vA vB) s vD 32 (fun k => ((elem 32 k A).toNat : Int) + (elem 32 k B).toNat) ∧
    GivesSigned (.vaddsws vD vA vB) s vD 32 (fun k => (elem 32 k A).toInt + (elem 32 k B).toInt) ∧
    GivesUnsigned (.vsububs vD vA vB) s vD 8 (fun k => ((elem 8 k A).toNat : Int) - (elem 8 k B).toNat) ∧
    GivesSigned (.vsubsbs vD vA vB) s vD 8 (fun k => (elem 8 k A).toInt - (elem 8 k B).toInt) ∧
    GivesUnsigned (.vsubuhs vD vA vB) s vD 16 (fun k => ((elem 16 k A).toNat : Int) - (elem 16 k B).toNat) ∧
    GivesSigned (.vsubshs vD vA vB) s vD 16 (fun k => (elem 16 k A).toInt - (elem 16 k B).toInt) ∧
    GivesUnsigned (.vsubuws vD vA vB) s vD 32 (fun k => ((elem 32 k A).toNat : Int) - (elem 32 k B).toNat) ∧
    GivesSigned (.vsubsws vD vA vB) s vD 32 (fun k => (elem 32 k A).toInt - (elem 32 k B).toInt)

/-- The integer maxima and minima, unsigned and signed (41_int_arith.md R274 to R285). -/
def Obligations.MaximumMinimum : Prop :=
    ∀ (s : State) (vD vA vB : VReg), s.vec = true →
    let A := s.readV vA
    let B := s.readV vB
    Gives (.vmaxub vD vA vB) s vD 8 (fun k => if elem 8 k A < elem 8 k B then elem 8 k B else elem 8 k A) ∧
    Gives (.vminub vD vA vB) s vD 8 (fun k => if elem 8 k A < elem 8 k B then elem 8 k A else elem 8 k B) ∧
    Gives (.vmaxsb vD vA vB) s vD 8 (fun k => if (elem 8 k A).slt (elem 8 k B) then elem 8 k B else elem 8 k A) ∧
    Gives (.vminsb vD vA vB) s vD 8 (fun k => if (elem 8 k A).slt (elem 8 k B) then elem 8 k A else elem 8 k B) ∧
    Gives (.vmaxuh vD vA vB) s vD 16 (fun k => if elem 16 k A < elem 16 k B then elem 16 k B else elem 16 k A) ∧
    Gives (.vminuh vD vA vB) s vD 16 (fun k => if elem 16 k A < elem 16 k B then elem 16 k A else elem 16 k B) ∧
    Gives (.vmaxsh vD vA vB) s vD 16 (fun k => if (elem 16 k A).slt (elem 16 k B) then elem 16 k B else elem 16 k A) ∧
    Gives (.vminsh vD vA vB) s vD 16 (fun k => if (elem 16 k A).slt (elem 16 k B) then elem 16 k A else elem 16 k B) ∧
    Gives (.vmaxuw vD vA vB) s vD 32 (fun k => if elem 32 k A < elem 32 k B then elem 32 k B else elem 32 k A) ∧
    Gives (.vminuw vD vA vB) s vD 32 (fun k => if elem 32 k A < elem 32 k B then elem 32 k A else elem 32 k B) ∧
    Gives (.vmaxsw vD vA vB) s vD 32 (fun k => if (elem 32 k A).slt (elem 32 k B) then elem 32 k B else elem 32 k A) ∧
    Gives (.vminsw vD vA vB) s vD 32 (fun k => if (elem 32 k A).slt (elem 32 k B) then elem 32 k A else elem 32 k B)

/-- The rounded averages, unsigned and signed (41_int_arith.md R268 to R273). -/
def Obligations.Averages : Prop :=
    ∀ (s : State) (vD vA vB : VReg), s.vec = true →
    let A := s.readV vA
    let B := s.readV vB
    Gives (.vavgub vD vA vB) s vD 8 (fun k => BitVec.ofNat 8 (((elem 8 k A).toNat + (elem 8 k B).toNat + 1) / 2)) ∧
    Gives (.vavgsb vD vA vB) s vD 8 (fun k => BitVec.ofInt 8 (((elem 8 k A).toInt + (elem 8 k B).toInt + 1) / 2)) ∧
    Gives (.vavguh vD vA vB) s vD 16 (fun k => BitVec.ofNat 16 (((elem 16 k A).toNat + (elem 16 k B).toNat + 1) / 2)) ∧
    Gives (.vavgsh vD vA vB) s vD 16 (fun k => BitVec.ofInt 16 (((elem 16 k A).toInt + (elem 16 k B).toInt + 1) / 2)) ∧
    Gives (.vavguw vD vA vB) s vD 32 (fun k => BitVec.ofNat 32 (((elem 32 k A).toNat + (elem 32 k B).toNat + 1) / 2)) ∧
    Gives (.vavgsw vD vA vB) s vD 32 (fun k => BitVec.ofInt 32 (((elem 32 k A).toInt + (elem 32 k B).toInt + 1) / 2))

/-- The multiplies of the even or the odd elements give the full products (41_int_arith.md R246 to R253). -/
def Obligations.MultiplyEvenOdd : Prop :=
    ∀ (s : State) (vD vA vB : VReg), s.vec = true →
    let A := s.readV vA
    let B := s.readV vB
    Gives (.vmuleub vD vA vB) s vD 16 (fun k => (elem 8 (2 * k) A).setWidth 16 * (elem 8 (2 * k) B).setWidth 16) ∧
    Gives (.vmulesb vD vA vB) s vD 16 (fun k => (elem 8 (2 * k) A).signExtend 16 * (elem 8 (2 * k) B).signExtend 16) ∧
    Gives (.vmuleuh vD vA vB) s vD 32 (fun k => (elem 16 (2 * k) A).setWidth 32 * (elem 16 (2 * k) B).setWidth 32) ∧
    Gives (.vmulesh vD vA vB) s vD 32 (fun k => (elem 16 (2 * k) A).signExtend 32 * (elem 16 (2 * k) B).signExtend 32) ∧
    Gives (.vmuloub vD vA vB) s vD 16 (fun k => (elem 8 (2 * k + 1) A).setWidth 16 * (elem 8 (2 * k + 1) B).setWidth 16) ∧
    Gives (.vmulosb vD vA vB) s vD 16 (fun k => (elem 8 (2 * k + 1) A).signExtend 16 * (elem 8 (2 * k + 1) B).signExtend 16) ∧
    Gives (.vmulouh vD vA vB) s vD 32 (fun k => (elem 16 (2 * k + 1) A).setWidth 32 * (elem 16 (2 * k + 1) B).setWidth 32) ∧
    Gives (.vmulosh vD vA vB) s vD 32 (fun k => (elem 16 (2 * k + 1) A).signExtend 32 * (elem 16 (2 * k + 1) B).signExtend 32)

/-- The half-word multiply-adds (41_int_arith.md R254, 41_int_arith.md R255, 41_int_arith.md R256). -/
def Obligations.MultiplyAdd : Prop :=
    ∀ (s : State) (vD vA vB vC : VReg), s.vec = true →
    let A := s.readV vA
    let B := s.readV vB
    let C := s.readV vC
    GivesSigned (.vmhaddshs vD vA vB vC) s vD 16 (fun k => (elem 16 k A).toInt * (elem 16 k B).toInt / 32768 + (elem 16 k C).toInt) ∧
    GivesSigned (.vmhraddshs vD vA vB vC) s vD 16 (fun k => ((elem 16 k A).toInt * (elem 16 k B).toInt + 16384) / 32768 + (elem 16 k C).toInt) ∧
    Gives (.vmladduhm vD vA vB vC) s vD 16 (fun k => elem 16 k A * elem 16 k B + elem 16 k C)

/-- The multiply-sums, modulo and saturating (41_int_arith.md R257 to R262). -/
def Obligations.MultiplySum : Prop :=
    ∀ (s : State) (vD vA vB vC : VReg), s.vec = true →
    let A := s.readV vA
    let B := s.readV vB
    let C := s.readV vC
    Gives (.vmsumubm vD vA vB vC) s vD 32 (fun k => elem 32 k C + ((elem 8 (4 * k) A).setWidth 32 * (elem 8 (4 * k) B).setWidth 32 + (elem 8 (4 * k + 1) A).setWidth 32 * (elem 8 (4 * k + 1) B).setWidth 32 + (elem 8 (4 * k + 2) A).setWidth 32 * (elem 8 (4 * k + 2) B).setWidth 32 + (elem 8 (4 * k + 3) A).setWidth 32 * (elem 8 (4 * k + 3) B).setWidth 32)) ∧
    Gives (.vmsummbm vD vA vB vC) s vD 32 (fun k => elem 32 k C + ((elem 8 (4 * k) A).signExtend 32 * (elem 8 (4 * k) B).setWidth 32 + (elem 8 (4 * k + 1) A).signExtend 32 * (elem 8 (4 * k + 1) B).setWidth 32 + (elem 8 (4 * k + 2) A).signExtend 32 * (elem 8 (4 * k + 2) B).setWidth 32 + (elem 8 (4 * k + 3) A).signExtend 32 * (elem 8 (4 * k + 3) B).setWidth 32)) ∧
    Gives (.vmsumuhm vD vA vB vC) s vD 32 (fun k => elem 32 k C + ((elem 16 (2 * k) A).setWidth 32 * (elem 16 (2 * k) B).setWidth 32 + (elem 16 (2 * k + 1) A).setWidth 32 * (elem 16 (2 * k + 1) B).setWidth 32)) ∧
    Gives (.vmsumshm vD vA vB vC) s vD 32 (fun k => elem 32 k C + ((elem 16 (2 * k) A).signExtend 32 * (elem 16 (2 * k) B).signExtend 32 + (elem 16 (2 * k + 1) A).signExtend 32 * (elem 16 (2 * k + 1) B).signExtend 32)) ∧
    GivesUnsigned (.vmsumuhs vD vA vB vC) s vD 32 (fun k => ((elem 32 k C).toNat : Int) + ((elem 16 (2 * k) A).toNat * (elem 16 (2 * k) B).toNat + (elem 16 (2 * k + 1) A).toNat * (elem 16 (2 * k + 1) B).toNat : Nat)) ∧
    GivesSigned (.vmsumshs vD vA vB vC) s vD 32 (fun k => (elem 32 k C).toInt + ((elem 16 (2 * k) A).toInt * (elem 16 (2 * k) B).toInt + (elem 16 (2 * k + 1) A).toInt * (elem 16 (2 * k + 1) B).toInt))

/-- The sums across, saturating (41_int_arith.md R263 to R267). -/
def Obligations.SumAcross : Prop :=
    ∀ (s : State) (vD vA vB : VReg), s.vec = true →
    let A := s.readV vA
    let B := s.readV vB
    GivesUnsigned (.vsum4ubs vD vA vB) s vD 32 (fun k => ((elem 32 k B).toNat : Int) + ((elem 8 (4 * k) A).toNat + (elem 8 (4 * k + 1) A).toNat + (elem 8 (4 * k + 2) A).toNat + (elem 8 (4 * k + 3) A).toNat : Nat)) ∧
    GivesSigned (.vsum4sbs vD vA vB) s vD 32 (fun k => (elem 32 k B).toInt + ((elem 8 (4 * k) A).toInt + (elem 8 (4 * k + 1) A).toInt + (elem 8 (4 * k + 2) A).toInt + (elem 8 (4 * k + 3) A).toInt)) ∧
    GivesSigned (.vsum4shs vD vA vB) s vD 32 (fun k => (elem 32 k B).toInt + ((elem 16 (2 * k) A).toInt + (elem 16 (2 * k + 1) A).toInt)) ∧
    GivesSigned (.vsum2sws vD vA vB) s vD 32 (fun k => if k = 1 ∨ k = 3 then (elem 32 (k - 1) A).toInt + (elem 32 k A).toInt + (elem 32 k B).toInt else 0) ∧
    GivesSigned (.vsumsws vD vA vB) s vD 32 (fun k => if k = 3 then (elem 32 0 A).toInt + (elem 32 1 A).toInt + (elem 32 2 A).toInt + (elem 32 3 A).toInt + (elem 32 3 B).toInt else 0)

/-- The integer compares give masks, and with Rc = 1 CR field 6 (42_int_cmp_logic_shift.md R301, 42_int_cmp_logic_shift.md R303 to R311, 10_state.md R56). -/
def Obligations.IntegerCompares : Prop :=
    ∀ (s : State) (vD vA vB : VReg) (rc : Bool), s.vec = true →
    let A := s.readV vA
    let B := s.readV vB
    GivesCompare (.vcmpequb vD vA vB rc) s vD rc 8 (fun k => elem 8 k A = elem 8 k B) ∧
    GivesCompare (.vcmpgtub vD vA vB rc) s vD rc 8 (fun k => (elem 8 k A).toNat > (elem 8 k B).toNat) ∧
    GivesCompare (.vcmpgtsb vD vA vB rc) s vD rc 8 (fun k => (elem 8 k A).toInt > (elem 8 k B).toInt) ∧
    GivesCompare (.vcmpequh vD vA vB rc) s vD rc 16 (fun k => elem 16 k A = elem 16 k B) ∧
    GivesCompare (.vcmpgtuh vD vA vB rc) s vD rc 16 (fun k => (elem 16 k A).toNat > (elem 16 k B).toNat) ∧
    GivesCompare (.vcmpgtsh vD vA vB rc) s vD rc 16 (fun k => (elem 16 k A).toInt > (elem 16 k B).toInt) ∧
    GivesCompare (.vcmpequw vD vA vB rc) s vD rc 32 (fun k => elem 32 k A = elem 32 k B) ∧
    GivesCompare (.vcmpgtuw vD vA vB rc) s vD rc 32 (fun k => (elem 32 k A).toNat > (elem 32 k B).toNat) ∧
    GivesCompare (.vcmpgtsw vD vA vB rc) s vD rc 32 (fun k => (elem 32 k A).toInt > (elem 32 k B).toInt)

/-- The logical instructions, bit by bit (42_int_cmp_logic_shift.md R313 to R317). -/
def Obligations.LogicalOperations : Prop :=
    ∀ (s : State) (vD vA vB : VReg), s.vec = true →
    let A := s.readV vA
    let B := s.readV vB
    Gives (.vand vD vA vB) s vD 1 (fun k => elem 1 k A &&& elem 1 k B) ∧
    Gives (.vandc vD vA vB) s vD 1 (fun k => elem 1 k A &&& ~~~(elem 1 k B)) ∧
    Gives (.vor vD vA vB) s vD 1 (fun k => elem 1 k A ||| elem 1 k B) ∧
    Gives (.vxor vD vA vB) s vD 1 (fun k => elem 1 k A ^^^ elem 1 k B) ∧
    Gives (.vnor vD vA vB) s vD 1 (fun k => ~~~(elem 1 k A ||| elem 1 k B))

/-- The element rotates and shifts, by the count in vB modulo the width (42_int_cmp_logic_shift.md R318 to R330). -/
def Obligations.RotatesAndShifts : Prop :=
    ∀ (s : State) (vD vA vB : VReg), s.vec = true →
    let A := s.readV vA
    let B := s.readV vB
    Gives (.vrlb vD vA vB) s vD 8 (fun k => (elem 8 k A).rotateLeft ((elem 8 k B).toNat % 8)) ∧
    Gives (.vslb vD vA vB) s vD 8 (fun k => elem 8 k A <<< ((elem 8 k B).toNat % 8)) ∧
    Gives (.vsrb vD vA vB) s vD 8 (fun k => elem 8 k A >>> ((elem 8 k B).toNat % 8)) ∧
    Gives (.vsrab vD vA vB) s vD 8 (fun k => BitVec.ofInt 8 ((elem 8 k A).toInt / 2 ^ ((elem 8 k B).toNat % 8))) ∧
    Gives (.vrlh vD vA vB) s vD 16 (fun k => (elem 16 k A).rotateLeft ((elem 16 k B).toNat % 16)) ∧
    Gives (.vslh vD vA vB) s vD 16 (fun k => elem 16 k A <<< ((elem 16 k B).toNat % 16)) ∧
    Gives (.vsrh vD vA vB) s vD 16 (fun k => elem 16 k A >>> ((elem 16 k B).toNat % 16)) ∧
    Gives (.vsrah vD vA vB) s vD 16 (fun k => BitVec.ofInt 16 ((elem 16 k A).toInt / 2 ^ ((elem 16 k B).toNat % 16))) ∧
    Gives (.vrlw vD vA vB) s vD 32 (fun k => (elem 32 k A).rotateLeft ((elem 32 k B).toNat % 32)) ∧
    Gives (.vslw vD vA vB) s vD 32 (fun k => elem 32 k A <<< ((elem 32 k B).toNat % 32)) ∧
    Gives (.vsrw vD vA vB) s vD 32 (fun k => elem 32 k A >>> ((elem 32 k B).toNat % 32)) ∧
    Gives (.vsraw vD vA vB) s vD 32 (fun k => BitVec.ofInt 32 ((elem 32 k A).toInt / 2 ^ ((elem 32 k B).toNat % 32)))

/-- The packs narrow the elements of vA followed by vB (44_permute.md R421 to R430). -/
def Obligations.Packs : Prop :=
    ∀ (s : State) (vD vA vB : VReg), s.vec = true →
    let A := s.readV vA
    let B := s.readV vB
    let p16 : Nat → BitVec 16 := fun j => if j < 8 then elem 16 j A else elem 16 (j - 8) B
    let p32 : Nat → BitVec 32 := fun j => if j < 4 then elem 32 j A else elem 32 (j - 4) B
    Gives (.vpkuhum vD vA vB) s vD 8 (fun j => (p16 j).setWidth 8) ∧
    Gives (.vpkuwum vD vA vB) s vD 16 (fun j => (p32 j).setWidth 16) ∧
    GivesUnsigned (.vpkuhus vD vA vB) s vD 8 (fun j => ((p16 j).toNat : Int)) ∧
    GivesUnsigned (.vpkuwus vD vA vB) s vD 16 (fun j => ((p32 j).toNat : Int)) ∧
    GivesUnsigned (.vpkshus vD vA vB) s vD 8 (fun j => (p16 j).toInt) ∧
    GivesUnsigned (.vpkswus vD vA vB) s vD 16 (fun j => (p32 j).toInt) ∧
    GivesSigned (.vpkshss vD vA vB) s vD 8 (fun j => (p16 j).toInt) ∧
    GivesSigned (.vpkswss vD vA vB) s vD 16 (fun j => (p32 j).toInt) ∧
    Gives (.vpkpx vD vA vB) s vD 16 (fun j => (((p32 j) >>> 9 &&& 0xFC00) ||| ((p32 j) >>> 6 &&& 0x03E0) ||| ((p32 j) >>> 3 &&& 0x001F)).setWidth 16)

/-- The unpacks widen the high or the low half of vB (44_permute.md R431 to R436). -/
def Obligations.Unpacks : Prop :=
    ∀ (s : State) (vD vB : VReg), s.vec = true →
    let B := s.readV vB
    Gives (.vupkhsb vD vB) s vD 16 (fun j => (elem 8 j B).signExtend 16) ∧
    Gives (.vupkhsh vD vB) s vD 32 (fun j => (elem 16 j B).signExtend 32) ∧
    Gives (.vupklsb vD vB) s vD 16 (fun j => (elem 8 (8 + j) B).signExtend 16) ∧
    Gives (.vupklsh vD vB) s vD 32 (fun j => (elem 16 (4 + j) B).signExtend 32) ∧
    Gives (.vupkhpx vD vB) s vD 32 (fun j => ((elem 16 j B).signExtend 32 &&& 0xFF000000) ||| ((elem 16 j B).setWidth 32 &&& 0x7C00) <<< 6 |||
      ((elem 16 j B).setWidth 32 &&& 0x03E0) <<< 3 ||| ((elem 16 j B).setWidth 32 &&& 0x001F)) ∧
    Gives (.vupklpx vD vB) s vD 32 (fun j => ((elem 16 (4 + j) B).signExtend 32 &&& 0xFF000000) ||| ((elem 16 (4 + j) B).setWidth 32 &&& 0x7C00) <<< 6 |||
      ((elem 16 (4 + j) B).setWidth 32 &&& 0x03E0) <<< 3 ||| ((elem 16 (4 + j) B).setWidth 32 &&& 0x001F))

/-- The merges interleave the high or the low halves of vA and vB (44_permute.md R438 to R443). -/
def Obligations.Merges : Prop :=
    ∀ (s : State) (vD vA vB : VReg), s.vec = true →
    let A := s.readV vA
    let B := s.readV vB
    Gives (.vmrghb vD vA vB) s vD 8 (fun j => if j % 2 = 0 then elem 8 (j / 2) A else elem 8 (j / 2) B) ∧
    Gives (.vmrglb vD vA vB) s vD 8 (fun j => if j % 2 = 0 then elem 8 (8 + j / 2) A else elem 8 (8 + j / 2) B) ∧
    Gives (.vmrghh vD vA vB) s vD 16 (fun j => if j % 2 = 0 then elem 16 (j / 2) A else elem 16 (j / 2) B) ∧
    Gives (.vmrglh vD vA vB) s vD 16 (fun j => if j % 2 = 0 then elem 16 (4 + j / 2) A else elem 16 (4 + j / 2) B) ∧
    Gives (.vmrghw vD vA vB) s vD 32 (fun j => if j % 2 = 0 then elem 32 (j / 2) A else elem 32 (j / 2) B) ∧
    Gives (.vmrglw vD vA vB) s vD 32 (fun j => if j % 2 = 0 then elem 32 (2 + j / 2) A else elem 32 (2 + j / 2) B)

/-- The splats copy one element, or a signed immediate, to every element (44_permute.md R445 to R450). That UIMM counts modulo the number of elements is the model's choice after D15 (log 18). -/
def Obligations.Splats : Prop :=
    ∀ (s : State) (vD vB : VReg) (uimm simm : BitVec 5), s.vec = true →
    let B := s.readV vB
    Gives (.vspltb vD uimm vB) s vD 8 (fun _ => elem 8 (uimm.toNat % 16) B) ∧
    Gives (.vsplth vD uimm vB) s vD 16 (fun _ => elem 16 (uimm.toNat % 8) B) ∧
    Gives (.vspltw vD uimm vB) s vD 32 (fun _ => elem 32 (uimm.toNat % 4) B) ∧
    Gives (.vspltisb vD simm) s vD 8 (fun _ => BitVec.ofInt 8 simm.toInt) ∧
    Gives (.vspltish vD simm) s vD 16 (fun _ => BitVec.ofInt 16 simm.toInt) ∧
    Gives (.vspltisw vD simm) s vD 32 (fun _ => BitVec.ofInt 32 simm.toInt)

/-- vsel, vperm and vsldoi (44_permute.md R451, 44_permute.md R452, 44_permute.md R458). -/
def Obligations.SelectAndPermute : Prop :=
    ∀ (s : State) (vD vA vB vC : VReg) (shb : Fin 16), s.vec = true →
    let A := s.readV vA
    let B := s.readV vB
    let C := s.readV vC
    Gives (.vsel vD vA vB vC) s vD 1 (fun k => if elem 1 k C = 1 then elem 1 k B else elem 1 k A) ∧
    Gives (.vperm vD vA vB vC) s vD 8 (fun j =>
      let p := (elem 8 j C).toNat % 32
      if p < 16 then elem 8 p A else elem 8 (p - 16) B) ∧
    Gives (.vsldoi vD vA vB shb) s vD 8 (fun j => if shb.val + j < 16 then elem 8 (shb.val + j) A else elem 8 (shb.val + j - 16) B)

/-- The shifts of a whole register, by bits and by bytes (44_permute.md R453 to R457). -/
def Obligations.LongShifts : Prop :=
    ∀ (s : State) (vD vA vB : VReg), s.vec = true →
    let A := s.readV vA
    let B := s.readV vB
    let n := (elem 8 15 B).toNat / 8 % 16
    let sh := (elem 8 15 B).toNat % 8
    Gives (.vslo vD vA vB) s vD 8 (fun j => if j + n < 16 then elem 8 (j + n) A else 0) ∧
    Gives (.vsro vD vA vB) s vD 8 (fun j => if n ≤ j then elem 8 (j - n) A else 0) ∧
    ((∀ j, j < 16 → (elem 8 j B).toNat % 8 = sh) →
      Gives (.vsl vD vA vB) s vD 1 (fun k => if k + sh < 128 then elem 1 (k + sh) A else 0) ∧
      Gives (.vsr vD vA vB) s vD 1 (fun k => if sh ≤ k then elem 1 (k - sh) A else 0)) ∧
    (∃ t, exec (.vsl vD vA vB) s = .next t ∧ WroteOnly vD s t) ∧
    (∃ t, exec (.vsr vD vA vB) s = .next t ∧ WroteOnly vD s t)

/-- The floating-point arithmetic instructions work element by element and touch no flag (43_float.md R360, 43_float.md R370 to R375). That all sources are flushed with NJ = 1 is the model's choice after D17 (log 28). -/
def Obligations.FloatArithmetic : Prop :=
    ∀ (s : State) (vD vA vB vC : VReg), s.vec = true →
    let A := s.readV vA
    let B := s.readV vB
    let C := s.readV vC
    Gives (.vaddfp vD vA vB) s vD 32 (fun k => fpAdd s.nj (elem 32 k A) (elem 32 k B)) ∧
    Gives (.vsubfp vD vA vB) s vD 32 (fun k => fpSub s.nj (elem 32 k A) (elem 32 k B)) ∧
    Gives (.vmaddfp vD vA vB vC) s vD 32 (fun k => fpMulAdd s.nj (elem 32 k A) (elem 32 k B) (elem 32 k C)) ∧
    Gives (.vnmsubfp vD vA vB vC) s vD 32 (fun k => fpNegMulSub s.nj (elem 32 k A) (elem 32 k B) (elem 32 k C)) ∧
    Gives (.vmaxfp vD vA vB) s vD 32 (fun k => fpMax s.nj (elem 32 k A) (elem 32 k B)) ∧
    Gives (.vminfp vD vA vB) s vD 32 (fun k => fpMin s.nj (elem 32 k A) (elem 32 k B))

/-- Rounding gives a nearest single-precision number, ties to even, and says when it overflows (43_float.md R366, 43_float.md R394). The value of a pattern is an IEEE fact (log 32). -/
def Obligations.RoundingIsToNearestEven : Prop :=
    ∀ (z s : Bool) (num den : Nat), 0 < den →
    let y := roundNear false z s num den
    (num = 0 → y = fpZero z) ∧
    (num ≠ 0 → fpSign y = s) ∧
    ((2 ^ 25 - 1) * 2 ^ 252 * den ≤ num → y = fpInf s) ∧
    (num < (2 ^ 25 - 1) * 2 ^ 252 * den → fpFinite y = true ∧ ∀ w : Word, fpFinite w = true →
      ((num : Int) - fpMag y * den).natAbs ≤ ((num : Int) - fpMag w * den).natAbs ∧
      (((num : Int) - fpMag y * den).natAbs = ((num : Int) - fpMag w * den).natAbs → fpMag w ≠ fpMag y → fpFrac y % 2 = 0))

/-- Rounding a value that is a single-precision number gives that number, and non-Java mode flushes what is below 2^-126 (43_float.md R366, 43_float.md R395). The value of a pattern is an IEEE fact (log 32). -/
def Obligations.RoundingKeepsWhatFits : Prop :=
    (∀ (nj z : Bool) (w : Word), fpFinite w = true → fpIsZero w = false →
      roundVal nj z (fpVal w) 1 = if nj && fpIsDenorm w then fpZero (fpSign w) else w) ∧
    (∀ (z s : Bool) (num den : Nat), 0 < num → num < 8388608 * den → roundNear true z s num den = fpZero s) ∧
    (∀ (z s : Bool) (num den : Nat), 8388608 * den ≤ num → roundNear true z s num den = roundNear false z s num den)

/-- What an element of vaddfp and of vsubfp is, case by case (43_float.md R368 to R370, 43_float.md R371). The model's choices: the flush (log 28), the NaN order (log 29), the IEEE facts (log 32). -/
def Obligations.FloatSumsAndDifferences : Prop :=
    ∀ (nj : Bool) (x y : Word),
    let a := flushIn nj x
    let b := flushIn nj y
    (fpIsNaN a = true → fpAdd nj x y = a ||| 0x00400000) ∧
    (fpIsNaN a = false → fpIsNaN b = true → fpAdd nj x y = b ||| 0x00400000) ∧
    (fpIsNaN a = false → fpIsNaN b = false → fpAdd nj x y = fpAdd nj y x) ∧
    (fpIsInf a = true → fpIsInf b = true → fpSign a ≠ fpSign b → fpAdd nj x y = 0x7FC00000) ∧
    (fpIsInf a = true → fpFinite b = true → fpAdd nj x y = a) ∧
    (fpIsInf a = true → b = a → fpAdd nj x y = a) ∧
    (fpFinite a = true → fpFinite b = true →
      fpAdd nj x y = roundVal nj (a == 0x80000000 && b == 0x80000000) (fpVal a + fpVal b) 1) ∧
    (fpIsNaN y = false → fpSub nj x y = fpAdd nj x (y ^^^ 0x80000000)) ∧
    (fpIsNaN x = true → fpSub nj x y = x ||| 0x00400000) ∧
    (fpIsNaN x = false → fpIsNaN y = true → fpSub nj x y = y ||| 0x00400000)

/-- The saturating conversions clamp to the range of the element, and SAT records, stickily, whether any element was clamped (41_int_arith.md R223, 41_int_arith.md R224, 41_int_arith.md R225). -/
def Obligations.SaturatingConversions : Prop :=
    (∀ (n : Nat) (x : Int), (2 ^ n - 1 < x → satUnsigned n x = (BitVec.allOnes n, true)) ∧ (x < 0 → satUnsigned n x = (0, true)) ∧
      (0 ≤ x → x ≤ 2 ^ n - 1 → (satUnsigned n x).2 = false ∧ ((satUnsigned n x).1.toNat : Int) = x)) ∧
    (∀ (n : Nat) (x : Int), 0 < n → (2 ^ (n - 1) - 1 < x → (satSigned n x).2 = true ∧ (satSigned n x).1.toInt = 2 ^ (n - 1) - 1) ∧
      (x < -2 ^ (n - 1) → (satSigned n x).2 = true ∧ (satSigned n x).1.toInt = -2 ^ (n - 1)) ∧
      (-2 ^ (n - 1) ≤ x → x ≤ 2 ^ (n - 1) - 1 → (satSigned n x).2 = false ∧ (satSigned n x).1.toInt = x)) ∧
    (∀ (n : Nat) (f : Nat → BitVec n × Bool), 0 < n → 128 % n = 0 →
      ((buildSat n f).2 = true ↔ ∃ k, k < 128 / n ∧ (f k).2 = true) ∧ ∀ k, k < 128 / n → elem n k (buildSat n f).1 = (f k).1) ∧
    (∀ (s : State) (r : VReg) (d : Quad × Bool), (s.writeSat r d).readV r = d.1 ∧ (s.writeSat r d).sat = (s.sat || d.2))

/-- What an element of vmaddfp and of vnmsubfp is, case by case (43_float.md R372, 43_float.md R373, 43_float.md R368, 43_float.md R369). The model's choices: the flush (log 28), the NaN order (log 29), the IEEE facts (log 32). -/
def Obligations.FusedMultiplyAdd : Prop :=
    ∀ (nj : Bool) (x y w : Word),
    let a := flushIn nj x
    let b := flushIn nj y
    let c := flushIn nj w
    let negZero := (fpSign a != fpSign c) && (fpIsZero a || fpIsZero c)
    (fpFinite a = true → fpFinite b = true → fpFinite c = true →
      fpMulAdd nj x y w = roundVal nj (negZero && b == 0x80000000) (fpVal a * fpVal c + fpVal b * 2 ^ 149) (2 ^ 149) ∧
      fpNegMulSub nj x y w = roundVal nj (negZero && b == 0) (fpVal a * fpVal c - fpVal b * 2 ^ 149) (2 ^ 149) ^^^ 0x80000000) ∧
    (fpIsNaN b = false → (fpIsInf a = true ∧ fpIsZero c = true ∨ fpIsZero a = true ∧ fpIsInf c = true) →
      fpMulAdd nj x y w = 0x7FC00000 ∧ fpNegMulSub nj x y w = 0x7FC00000) ∧
    (fpIsNaN a = false → fpIsNaN b = false → fpIsNaN c = false → fpIsInf a = true ∨ fpIsInf c = true → fpIsZero a = false → fpIsZero c = false →
      let ps := fpSign a != fpSign c
      fpMulAdd nj x y w = (if fpIsInf b = true ∧ fpSign b ≠ ps then 0x7FC00000 else fpInf ps) ∧
      fpNegMulSub nj x y w = (if fpIsInf b = true ∧ fpSign b = ps then 0x7FC00000 else fpInf (!ps))) ∧
    (fpFinite a = true → fpFinite c = true → fpIsInf b = true → fpMulAdd nj x y w = b ∧ fpNegMulSub nj x y w = b) ∧
    (fpIsNaN a = true ∨ fpIsNaN b = true ∨ fpIsNaN c = true →
      let q := (if fpIsNaN a then a else if fpIsNaN b then b else c) ||| 0x00400000
      fpMulAdd nj x y w = q ∧ fpNegMulSub nj x y w = q)

/-- vnmsubfp is b - a * c, except in the sign of a zero (43_float.md R373, 43_float.md R397). The flush is log 28. -/
def Obligations.NegativeMultiplySubtract : Prop :=
    ∀ (nj : Bool) (a b c : Word), fpIsNaN a = false → fpIsNaN b = false → fpIsNaN c = false →
    (fpIsZero (fpNegMulSub nj a b c) = false → fpNegMulSub nj a b c = fpMulAdd nj (a ^^^ 0x80000000) b c) ∧
    (fpIsZero (fpNegMulSub nj a b c) = true ↔ fpIsZero (fpMulAdd nj (a ^^^ 0x80000000) b c) = true)

/-- What an element of vmaxfp and of vminfp is (43_float.md R374, 43_float.md R375, 43_float.md R365). The model's choices: the flush (log 28), the NaN order (log 29), the values and their order (log 32). -/
def Obligations.FloatMaximumMinimum : Prop :=
    ∀ (nj : Bool) (x y : Word),
    let a := flushIn nj x
    let b := flushIn nj y
    (fpIsNaN a = false → fpIsNaN b = false →
      fpVal (fpMax nj x y) = max (fpVal a) (fpVal b) ∧ fpVal (fpMin nj x y) = min (fpVal a) (fpVal b) ∧
      (fpMax nj x y = a ∨ fpMax nj x y = b) ∧ (fpMin nj x y = a ∨ fpMin nj x y = b)) ∧
    (fpIsZero a = true → fpIsZero b = true →
      fpSign (fpMax nj x y) = (fpSign a && fpSign b) ∧ fpSign (fpMin nj x y) = (fpSign a || fpSign b)) ∧
    (fpIsNaN a = true ∨ fpIsNaN b = true →
      let q := (if fpIsNaN a then a else b) ||| 0x00400000
      fpMax nj x y = q ∧ fpMin nj x y = q)

/-- The floating-point compares, false for a NaN, and the bounds compare (43_float.md R376, 43_float.md R377, 43_float.md R378, 43_float.md R379, 10_state.md R56). The model's choices: the flush (log 28), the order of values (log 32). -/
def Obligations.FloatCompares : Prop :=
    ∀ (s : State) (vD vA vB : VReg) (rc : Bool), s.vec = true →
    let A := s.readV vA
    let B := s.readV vB
    let a := fun k => flushIn s.nj (elem 32 k A)
    let b := fun k => flushIn s.nj (elem 32 k B)
    let noNaN := fun k => fpIsNaN (a k) = false ∧ fpIsNaN (b k) = false
    let le := fun k => noNaN k ∧ fpVal (a k) ≤ fpVal (b k)
    let ge := fun k => noNaN k ∧ -fpVal (b k) ≤ fpVal (a k)
    GivesCompare (.vcmpeqfp vD vA vB rc) s vD rc 32 (fun k => noNaN k ∧ fpVal (a k) = fpVal (b k)) ∧
    GivesCompare (.vcmpgefp vD vA vB rc) s vD rc 32 (fun k => noNaN k ∧ fpVal (b k) ≤ fpVal (a k)) ∧
    GivesCompare (.vcmpgtfp vD vA vB rc) s vD rc 32 (fun k => noNaN k ∧ fpVal (b k) < fpVal (a k)) ∧
    (∃ t, exec (.vcmpbfp vD vA vB rc) s = .next t ∧
      (∀ k, k < 4 → (wordBit (elem 32 k (t.readV vD)) 0 = true ↔ ¬ le k) ∧ (wordBit (elem 32 k (t.readV vD)) 1 = true ↔ ¬ ge k) ∧
        elem 32 k (t.readV vD) &&& 0x3FFFFFFF = 0) ∧
      (rc = false → t.cr = s.cr) ∧
      (rc = true → (∀ c, c < 32 → (c < 24 ∨ 27 < c) → wordBit t.cr c = wordBit s.cr c) ∧ wordBit t.cr 24 = false ∧
        wordBit t.cr 25 = false ∧ (wordBit t.cr 26 = true ↔ ∀ k, k < 4 → le k ∧ ge k) ∧ wordBit t.cr 27 = false) ∧
      WroteVector vD s t ∧ t.vscr = s.vscr)

/-- What rounding to a floating-point integer gives in each mode (43_float.md R385 to R388). The model's choices: the flush (log 28), the sign of a zero result (log 32). -/
def Obligations.RoundedIntegers : Prop :=
    ∀ (nj : Bool) (w : Word),
    let x := flushIn nj w
    let one : Int := 2 ^ 149
    (fpFinite x = true → ∀ m : RoundMode,
      fpFinite (fpRoundInt m nj w) = true ∧ fpSign (fpRoundInt m nj w) = fpSign x ∧ fpVal (fpRoundInt m nj w) % one = 0) ∧
    (fpFinite x = true →
      2 * (fpVal x - fpVal (fpRoundInt .nearest nj w)).natAbs ≤ 2 ^ 149 ∧
      (2 * (fpVal x - fpVal (fpRoundInt .nearest nj w)).natAbs = 2 ^ 149 → fpVal (fpRoundInt .nearest nj w) % (2 * one) = 0) ∧
      fpVal (fpRoundInt .zero nj w) = Int.tdiv (fpVal x) one * one ∧
      fpVal x ≤ fpVal (fpRoundInt .up nj w) ∧ fpVal (fpRoundInt .up nj w) < fpVal x + one ∧
      fpVal (fpRoundInt .down nj w) ≤ fpVal x ∧ fpVal x < fpVal (fpRoundInt .down nj w) + one) ∧
    (∀ m : RoundMode, (fpIsNaN x = true → fpRoundInt m nj w = x ||| 0x00400000) ∧ (fpIsInf x = true → fpRoundInt m nj w = x))

/-- vrfin, vrfiz, vrfip, vrfim, vcfux and vcfsx work element by element and touch no flag (43_float.md R385 to R388, 43_float.md R389, 43_float.md R390). The flush is log 28; the values are IEEE facts (log 32). -/
def Obligations.RoundingsAndConversionsToFloat : Prop :=
    ∀ (s : State) (vD vB : VReg) (uimm : BitVec 5), s.vec = true →
    let B := s.readV vB
    Gives (.vrfin vD vB) s vD 32 (fun k => fpRoundInt .nearest s.nj (elem 32 k B)) ∧
    Gives (.vrfiz vD vB) s vD 32 (fun k => fpRoundInt .zero s.nj (elem 32 k B)) ∧
    Gives (.vrfip vD vB) s vD 32 (fun k => fpRoundInt .up s.nj (elem 32 k B)) ∧
    Gives (.vrfim vD vB) s vD 32 (fun k => fpRoundInt .down s.nj (elem 32 k B)) ∧
    Gives (.vcfux vD uimm vB) s vD 32 (fun k => roundVal false false (((elem 32 k B).toNat : Int) * 2 ^ 149) (2 ^ uimm.toNat)) ∧
    Gives (.vcfsx vD uimm vB) s vD 32 (fun k => roundVal false false ((elem 32 k B).toInt * 2 ^ 149) (2 ^ uimm.toNat))

/-- vctuxs and vctsxs scale, truncate and saturate, and record saturation (43_float.md R391, 43_float.md R392, 43_float.md R394). Truncation before saturation is the model's choice after D19 (log 30); the value of a pattern is an IEEE fact (log 32). -/
def Obligations.ConversionsToInteger : Prop :=
    ∀ (s : State) (vD vB : VReg) (uimm : BitVec 5), s.vec = true →
    let B := s.readV vB
    let x : Nat → Int := fun k =>
      if fpIsNaN (elem 32 k B) then 0 else Int.tdiv (fpVal (elem 32 k B) * 2 ^ uimm.toNat) (2 ^ 149)
    GivesUnsigned (.vctuxs vD uimm vB) s vD 32 x ∧ GivesSigned (.vctsxs vD uimm vB) s vD 32 x

/-- vrefp: the special results, and the bound of one part in 4096 (43_float.md R380, 43_float.md R381, 43_float.md R393, 43_float.md R394, 43_float.md R395). The estimate is a free value within the bound (log 10); the flush is log 28, and the value of a pattern is an IEEE fact (log 32). -/
def Obligations.ReciprocalEstimate : Prop :=
    ∀ (s : State) (vD vB : VReg), s.vec = true → ∃ t, exec (.vrefp vD vB) s = .next t ∧ WroteOnly vD s t ∧
    ∀ k, k < 4 →
      let x := flushIn s.nj (elem 32 k (s.readV vB))
      let y := elem 32 k (t.readV vD)
      (fpIsNaN x = true → y = x ||| 0x00400000) ∧
      (fpIsInf x = true → y = fpZero (fpSign x)) ∧
      (fpIsZero x = true → y = fpInf (fpSign x)) ∧
      (fpFinite x = true → fpIsZero x = false →
        fpIsNaN y = false ∧ fpSign y = fpSign x ∧ (s.nj = true → fpIsDenorm y = false) ∧
        (fpFinite y = true → fpIsZero y = false → (fpVal x * fpVal y - 2 ^ 298).natAbs ≤ 2 ^ 286) ∧
        (fpIsInf y = true → (2 ^ 25 - 1) * 4096 * fpMag x ≤ 4097 * 2 ^ 46) ∧
        (fpIsZero y = true → s.nj = true ∧ 4095 * 2 ^ 275 < 4096 * fpMag x))

/-- vrsqrtefp: the special results, and the bound of one part in 4096 (43_float.md R380, 43_float.md R382, 43_float.md R393). The estimate is a free value within the bound (log 10); the flush is log 28, and the value of a pattern is an IEEE fact (log 32). -/
def Obligations.ReciprocalSquareRootEstimate : Prop :=
    ∀ (s : State) (vD vB : VReg), s.vec = true → ∃ t, exec (.vrsqrtefp vD vB) s = .next t ∧ WroteOnly vD s t ∧
    ∀ k, k < 4 →
      let x := flushIn s.nj (elem 32 k (s.readV vB))
      let y := elem 32 k (t.readV vD)
      (fpIsNaN x = true → y = x ||| 0x00400000) ∧
      (fpIsNaN x = false → fpIsZero x = false → fpSign x = true → y = 0x7FC00000) ∧
      (fpIsZero x = true → y = fpInf (fpSign x)) ∧
      (fpIsInf x = true → fpSign x = false → y = 0) ∧
      (fpFinite x = true → fpIsZero x = false → fpSign x = false →
        fpFinite y = true ∧ fpSign y = false ∧ 4095 ^ 2 * 2 ^ 447 ≤ 4096 ^ 2 * (fpMag y ^ 2 * fpMag x) ∧
        4096 ^ 2 * (fpMag y ^ 2 * fpMag x) ≤ 4097 ^ 2 * 2 ^ 447)

/-- vexptefp: the special results, exact powers at integers, brackets between them, overflow and underflow (43_float.md R380, 43_float.md R383). The estimate is a free value within the bound, and that it may be the rounding of one within the bound where no single-precision number is within it is the model's choice (log 10); the flush is log 28, and the value of a pattern is an IEEE fact (log 32). -/
def Obligations.Exp2Estimate : Prop :=
    ∀ (s : State) (vD vB : VReg), s.vec = true → ∃ t, exec (.vexptefp vD vB) s = .next t ∧ WroteOnly vD s t ∧
    ∀ k, k < 4 →
      let x := flushIn s.nj (elem 32 k (s.readV vB))
      let y := elem 32 k (t.readV vD)
      (fpIsNaN x = true → y = x ||| 0x00400000) ∧
      (fpIsInf x = true → y = if fpSign x then 0 else x) ∧
      (fpIsZero x = true → y = 0x3F800000) ∧
      (fpFinite x = true → fpIsZero x = false →
        fpIsNaN y = false ∧ fpSign y = false ∧
        (∀ n : Int, -126 ≤ n → n ≤ 127 → fpVal x = n * 2 ^ 149 → y = BitVec.ofInt 32 ((n + 127) * 2 ^ 23)) ∧
        (s.nj = false → ∀ n : Int, -149 ≤ n → n ≤ -127 → fpVal x = n * 2 ^ 149 → y = BitVec.ofNat 32 (2 ^ (n + 149).toNat)) ∧
        (∀ n : Int, n * 2 ^ 149 < fpVal x → fpVal x < (n + 1) * 2 ^ 149 →
          ((if s.nj then -125 else -146) ≤ n → n ≤ 127 → 15 * 2 ^ (n + 149).toNat ≤ 16 * fpMag y) ∧
          ((if s.nj then -126 else -146) ≤ n → n ≤ 126 → 16 * fpMag y ≤ 17 * 2 ^ (n + 150).toNat) ∧
          (s.nj = false → -150 ≤ n → n ≤ -147 →
            15 * 2 ^ (n + 150).toNat ≤ 32 * fpMag y + 16 ∧ 32 * fpMag y ≤ 34 * 2 ^ (n + 150).toNat + 16)) ∧
        (128 * 2 ^ 149 ≤ fpVal x → y = 0x7F800000) ∧ (fpVal x < -150 * 2 ^ 149 → y = 0) ∧
        (s.nj = true → fpVal x < -126 * 2 ^ 149 → y = 0))

/-- vlogefp: the special results, and brackets at and between the powers of two (43_float.md R380, 43_float.md R384, 43_float.md R393). The estimate is a free value within the bound (log 10); the flush is log 28, and the value of a pattern is an IEEE fact (log 32). -/
def Obligations.Log2Estimate : Prop :=
    ∀ (s : State) (vD vB : VReg), s.vec = true → ∃ t, exec (.vlogefp vD vB) s = .next t ∧ WroteOnly vD s t ∧
    ∀ k, k < 4 →
      let x := flushIn s.nj (elem 32 k (s.readV vB))
      let y := elem 32 k (t.readV vD)
      (fpIsNaN x = true → y = x ||| 0x00400000) ∧
      (fpIsNaN x = false → fpIsZero x = false → fpSign x = true → y = 0x7FC00000) ∧
      (fpIsZero x = true → y = 0xFF800000) ∧
      (fpIsInf x = true → fpSign x = false → y = x) ∧
      (fpFinite x = true → fpIsZero x = false → fpSign x = false → fpFinite y = true ∧ (s.nj = true → fpIsDenorm y = false) ∧
        ∀ l : Nat, 2 ^ l ≤ fpMag x → fpMag x < 2 ^ (l + 1) →
          ((l : Int) - 149) * 2 ^ 149 - 2 ^ 144 ≤ fpVal y ∧ fpVal y ≤ ((l : Int) - 148) * 2 ^ 149 + 2 ^ 144 ∧
          (fpMag x = 2 ^ l → fpVal y ≤ ((l : Int) - 149) * 2 ^ 149 + 2 ^ 144))

/-- mfvscr and mtvscr move VSCR to and from the low-order word of a vector register (45_vscr_control.md R480, 45_vscr_control.md R481, 10_state.md R42, 10_state.md R45, 10_state.md R48). Reserved bits are log 8, and how NJ is read without Java mode is log 7. -/
def Obligations.VscrMoves : Prop :=
    ∀ (s : State) (v : VReg), s.vec = true →
    (∃ t, exec (.mfvscr v) s = .next t ∧ (∀ k, k < 3 → elem 32 k (t.readV v) = 0) ∧
      wordBit (elem 32 3 (t.readV v)) 15 = s.nj ∧ wordBit (elem 32 3 (t.readV v)) 31 = s.sat ∧
      (∀ b, b < 32 → wordBit s.vscrValue b = false → wordBit (elem 32 3 (t.readV v)) b = false) ∧ WroteOnly v s t) ∧
    (∃ t, exec (.mtvscr v) s = .next t ∧ t.vscr = elem 32 3 (s.readV v) ∧
      t.sat = wordBit (elem 32 3 (s.readV v)) 31 ∧ t.nj = (wordBit (elem 32 3 (s.readV v)) 15 || !Config.javaImplemented) ∧
      Completed s t ∧ RegistersKept s t ∧ t.vr = s.vr ∧ t.streams = s.streams ∧ t.cr = s.cr ∧ MemoryKept s t)

/-- The touch instructions start a stream in their slot and change no register but the program counter (46_data_stream.md R491 to R494, 46_data_stream.md R502 to R505). That the slots are kept and that rA field 0 is a no-op is the model's choice after D10 and D20 (log 23). -/
def Obligations.StreamTouches : Prop :=
    ∀ (s : State) (k : StreamId) (rA rB : GReg),
    let d := s.readG rB
    let size := (d >>> 24 &&& 0x1F).toNat
    let count := (d >>> 16 &&& 0xFF).toNat
    let s16 := (d &&& 0xFFFF).toNat
    let stream : StreamKind → Bool → Stream := fun kind tr =>
      { ea := s.readG rA, size := if size = 0 then 32 else size, count := if count = 0 then 256 else count,
        stride := if s16 = 0 then 32768 else if 0x8000 ≤ s16 then (s16 : Int) - 0x10000 else s16,
        transient := tr, kind := kind, pr := s.pr, progress := 0 }
    ∀ p ∈ [(Instr.dst k rA rB, stream .load false), (Instr.dstt k rA rB, stream .load true),
        (Instr.dstst k rA rB, stream .store false), (Instr.dststt k rA rB, stream .store true)],
      ∃ t, exec p.1 s = .next t ∧ Completed s t ∧ RegistersKept s t ∧ t.vr = s.vr ∧ t.cr = s.cr ∧ t.vscr = s.vscr ∧ MemoryKept s t ∧
        (rA = 0 → t.streams = s.streams) ∧
        (rA ≠ 0 → t.streams.get k = some p.2 ∧ ∀ j, j ≠ k → t.streams.get j = s.streams.get j)

/-- dss empties its slot and dssall all four (46_data_stream.md R492, 46_data_stream.md R494, 46_data_stream.md R506, 46_data_stream.md R507). That the slots are kept is the model's choice after D10 (log 23). -/
def Obligations.StreamStops : Prop :=
    ∀ (s : State) (k : StreamId),
    (∃ t, exec (.dss k) s = .next t ∧ Completed s t ∧ RegistersKept s t ∧ t.vr = s.vr ∧ t.cr = s.cr ∧ t.vscr = s.vscr ∧
      MemoryKept s t ∧ t.streams.get k = none ∧ ∀ j, j ≠ k → t.streams.get j = s.streams.get j) ∧
    (∃ t, exec .dssall s = .next t ∧ Completed s t ∧ RegistersKept s t ∧ t.vr = s.vr ∧ t.cr = s.cr ∧ t.vscr = s.vscr ∧
      MemoryKept s t ∧ ∀ j : StreamId, t.streams.get j = none)

/-- Every exception entry suspends all streams and cancels none (46_data_stream.md R500, 46_data_stream.md R501). That the slots are kept is the model's choice after D10 (log 23); what rfi restores is log 14, and the entries of the program exception and of DSI are log 13 and log 21. -/
def Obligations.StreamsAreSuspendedByAnException : Prop :=
    ∀ s : State,
    (∀ i : Instr, isStream i = false → s.vec = false → exec i s = .next s.takeUnavailable) ∧
    (execDecoded .illegal s = .next s.takeIllegal) ∧
    (s.pr = true → execBase .rfi s = .next s.takePrivileged) ∧
    (∀ ea : Word, ∀ t ∈ [s.takeUnavailable, s.takeIllegal, s.takePrivileged, s.takeDSI ea],
      t.streams = s.streams ∧ (∀ k, t.streamEnabled k = false) ∧
      ∃ u, execBase .rfi t = .next u ∧ u.streams = s.streams ∧ ∀ k, u.streamEnabled k = s.streamEnabled k)

/-- The prefetch engine ends streams or carries them on, and changes nothing else (46_data_stream.md R494, 46_data_stream.md R497, 46_data_stream.md R500). What the engine does is a free value at every step: the model's account of R494 (log 23). -/
def Obligations.PrefetchEngine : Prop :=
    ∀ s : State,
    let t := s.prefetch
    t.pc = s.pc ∧ t.msr = s.msr ∧ t.srr0 = s.srr0 ∧ t.srr1 = s.srr1 ∧ RegistersKept s t ∧ t.vr = s.vr ∧ t.cr = s.cr ∧ t.vscr = s.vscr ∧ t.mem = s.mem ∧
    ∀ k, t.streams.get k = none ∨ ∃ st p, s.streams.get k = some st ∧ t.streams.get k = some { st with progress := p } ∧
      st.progress ≤ p ∧ (s.streamEnabled k = false → p = st.progress) ∧ (s.streamEnabled k = true → p < st.count)

end
end

