-- ==== Sys2Proof/Laws/Elements.lean ====
section
/-! SUPPORT. The elements of a quad word: building it from its elements and reading them back. -/
namespace Sys2Proof.Machine

/-- A bit of `buildElems`: the elements lie one after the other, the last in the low-order bits. -/
theorem getLsbD_buildElems (n : Nat) (f : Nat → BitVec n) (hn : 0 < n) (m b : Nat) (hb : b < 128) :
    (buildElems n f m).getLsbD b = (decide (b < n * m) && (f (m - 1 - b / n)).getLsbD (b % n)) := by
  induction m generalizing b with
  | zero => simp [buildElems]
  | succ m ih =>
    simp only [buildElems, BitVec.getLsbD_or, BitVec.getLsbD_shiftLeft, BitVec.getLsbD_setWidth, hb, decide_true,
      Bool.true_and]
    by_cases h : b < n
    · have h0 : b / n = 0 := Nat.div_eq_of_lt h
      have h1 : b < n * (m + 1) := by rw [Nat.mul_succ]; omega
      simp [h, h0, h1, Nat.mod_eq_of_lt h]
    · have hle : n ≤ b := by omega
      have hq : b / n = (b - n) / n + 1 := by
        rw [← Nat.sub_add_cancel hle, Nat.add_div_right _ hn, Nat.sub_add_cancel hle]
      have hr : b % n = (b - n) % n := by
        conv_lhs => rw [← Nat.sub_add_cancel hle, Nat.add_mod_right]
      have hlt : (b - n < n * m) ↔ (b < n * (m + 1)) := by rw [Nat.mul_succ]; omega
      have hz : (f m).getLsbD b = false := BitVec.getLsbD_of_ge _ _ hle
      have hi : m + 1 - 1 - b / n = m - 1 - (b - n) / n := by omega
      rw [ih (b - n) (by omega), hz, hi, hr]
      simp [h, hlt]

/-- Element `k` of a quad word built from its elements is the k-th of them. -/
theorem elem_build (n : Nat) (f : Nat → BitVec n) (k : Nat) (hn : n ∣ 128) (h0 : 0 < n) (hk : k < 128 / n) :
    elem n k (build n f) = f k := by
  obtain ⟨m, hm⟩ := hn
  have hdiv : 128 / n = m := by rw [hm, Nat.mul_div_cancel_left _ h0]
  rw [hdiv] at hk
  apply BitVec.eq_of_getLsbD_eq
  intro i hi
  have hsplit : n * m = n * (k + 1) + n * (m - 1 - k) := by rw [← Nat.mul_add]; congr 1; omega
  have hbit : 128 - n * (k + 1) + i = n * (m - 1 - k) + i := by omega
  have hlt : n * (m - 1 - k) + i < 128 := by
    have : n * (k + 1) = n * k + n := Nat.mul_succ n k
    omega
  unfold elem build
  rw [BitVec.getLsbD_extractLsb', hbit, getLsbD_buildElems n f h0 _ _ hlt, hdiv, ← hm]
  have hq : (n * (m - 1 - k) + i) / n = m - 1 - k := by
    rw [Nat.mul_add_div h0, Nat.div_eq_of_lt hi, Nat.add_zero]
  have hr : (n * (m - 1 - k) + i) % n = i := by rw [Nat.mul_add_mod, Nat.mod_eq_of_lt hi]
  have hidx : m - 1 - (m - 1 - k) = k := by omega
  simp [hi, hlt, hq, hr, hidx]

/-- Two quad words with the same elements are equal. -/
theorem eq_of_elem_eq (n : Nat) (hn : n ∣ 128) (h0 : 0 < n) (a b : Quad) (h : ∀ k, k < 128 / n → elem n k a = elem n k b) :
    a = b := by
  obtain ⟨m, hm⟩ := hn
  have hdiv : 128 / n = m := by rw [hm, Nat.mul_div_cancel_left _ h0]
  rw [hdiv] at h
  apply BitVec.eq_of_getLsbD_eq
  intro i hi
  have him : i / n < m := by rw [Nat.div_lt_iff_lt_mul h0, Nat.mul_comm, ← hm]; exact hi
  have hmod := Nat.div_add_mod i n
  have hlt := Nat.mod_lt i h0
  generalize i / n = q at him hmod
  have hb := congrArg (fun x => x.getLsbD (i % n)) (h (m - 1 - q) (by omega))
  have hoff : 128 - n * (m - 1 - q + 1) + i % n = i := by
    have hs : n * m = n * (m - 1 - q + 1) + n * q := by rw [← Nat.mul_add]; congr 1; omega
    omega
  simpa [elem, BitVec.getLsbD_extractLsb', hoff, hlt] using hb

theorem elem_build8 (f : Nat → BitVec 8) {k : Nat} (hk : k < 16) : elem 8 k (build 8 f) = f k :=
  elem_build 8 f k (by decide) (by decide) hk

theorem elem_build16 (f : Nat → BitVec 16) {k : Nat} (hk : k < 8) : elem 16 k (build 16 f) = f k :=
  elem_build 16 f k (by decide) (by decide) hk

theorem elem_build32 (f : Nat → BitVec 32) {k : Nat} (hk : k < 4) : elem 32 k (build 32 f) = f k :=
  elem_build 32 f k (by decide) (by decide) hk

/-- A quad word is built from its own elements. -/
theorem build_elem (n : Nat) (hn : n ∣ 128) (h0 : 0 < n) (a : Quad) : build n (fun k => elem n k a) = a :=
  eq_of_elem_eq n hn h0 _ _ fun k hk => elem_build n _ k hn h0 hk

/-- `setElem` replaces one element and keeps the others. -/
theorem elem_setElem (n k : Nat) (x : BitVec n) (v : Quad) (hn : n ∣ 128) (h0 : 0 < n) {j : Nat} (hj : j < 128 / n) :
    elem n j (setElem n k x v) = if j = k then x else elem n j v :=
  elem_build n _ j hn h0 hj

/-- `anyBelow` says that some index satisfies the test. -/
theorem anyBelow_iff (p : Nat → Bool) (m : Nat) : anyBelow p m = true ↔ ∃ k, k < m ∧ p k = true := by
  induction m with
  | zero => simp [anyBelow]
  | succ m ih =>
    simp only [anyBelow, Bool.or_eq_true, ih]
    constructor
    · rintro (⟨k, hk, hp⟩ | hp)
      · exact ⟨k, by omega, hp⟩
      · exact ⟨m, by omega, hp⟩
    · rintro ⟨k, hk, hp⟩
      rcases Nat.lt_succ_iff_lt_or_eq.mp hk with h | rfl
      · exact .inl ⟨k, h, hp⟩
      · exact .inr hp

/-- `allBelow` says that every index satisfies the test. -/
theorem allBelow_iff (p : Nat → Bool) (m : Nat) : allBelow p m = true ↔ ∀ k, k < m → p k = true := by
  induction m with
  | zero => simp [allBelow]
  | succ m ih =>
    simp only [allBelow, Bool.and_eq_true, ih]
    constructor
    · rintro ⟨h, hm⟩ k hk
      rcases Nat.lt_succ_iff_lt_or_eq.mp hk with h' | rfl
      · exact h k h'
      · exact hm
    · exact fun h => ⟨fun k hk => h k (by omega), h m (by omega)⟩

end Sys2Proof.Machine
end

