-- ==== Sys2Proof/Laws/State.lean ====
section
/-! SUPPORT. What each update of the state does to each of its fields, and what each register file reads after a write. -/
namespace Sys2Proof.Machine

/-! ## `writeV` -/

@[simp] theorem State.writeV_vr (s : State) (r : VReg) (q : Quad) : (s.writeV r q).vr = s.vr.set r.val q r.isLt := rfl
@[simp] theorem State.writeV_gpr (s : State) (r : VReg) (q : Quad) : (s.writeV r q).gpr = s.gpr := rfl
@[simp] theorem State.writeV_pc (s : State) (r : VReg) (q : Quad) : (s.writeV r q).pc = s.pc := rfl
@[simp] theorem State.writeV_cr (s : State) (r : VReg) (q : Quad) : (s.writeV r q).cr = s.cr := rfl
@[simp] theorem State.writeV_msr (s : State) (r : VReg) (q : Quad) : (s.writeV r q).msr = s.msr := rfl
@[simp] theorem State.writeV_vscr (s : State) (r : VReg) (q : Quad) : (s.writeV r q).vscr = s.vscr := rfl
@[simp] theorem State.writeV_vrsave (s : State) (r : VReg) (q : Quad) : (s.writeV r q).vrsave = s.vrsave := rfl
@[simp] theorem State.writeV_srr0 (s : State) (r : VReg) (q : Quad) : (s.writeV r q).srr0 = s.srr0 := rfl
@[simp] theorem State.writeV_srr1 (s : State) (r : VReg) (q : Quad) : (s.writeV r q).srr1 = s.srr1 := rfl
@[simp] theorem State.writeV_dar (s : State) (r : VReg) (q : Quad) : (s.writeV r q).dar = s.dar := rfl
@[simp] theorem State.writeV_dsisr (s : State) (r : VReg) (q : Quad) : (s.writeV r q).dsisr = s.dsisr := rfl
@[simp] theorem State.writeV_streams (s : State) (r : VReg) (q : Quad) : (s.writeV r q).streams = s.streams := rfl
@[simp] theorem State.writeV_mem (s : State) (r : VReg) (q : Quad) : (s.writeV r q).mem = s.mem := rfl
@[simp] theorem State.writeV_base (s : State) (r : VReg) (q : Quad) : (s.writeV r q).base = s.base := rfl
@[simp] theorem State.writeV_draws (s : State) (r : VReg) (q : Quad) : (s.writeV r q).draws = s.draws := rfl

/-! ## `writeG` -/

@[simp] theorem State.writeG_vr (s : State) (r : GReg) (w : Word) : (s.writeG r w).vr = s.vr := rfl
@[simp] theorem State.writeG_gpr (s : State) (r : GReg) (w : Word) : (s.writeG r w).gpr = s.gpr.set r.val w r.isLt := rfl
@[simp] theorem State.writeG_pc (s : State) (r : GReg) (w : Word) : (s.writeG r w).pc = s.pc := rfl
@[simp] theorem State.writeG_cr (s : State) (r : GReg) (w : Word) : (s.writeG r w).cr = s.cr := rfl
@[simp] theorem State.writeG_msr (s : State) (r : GReg) (w : Word) : (s.writeG r w).msr = s.msr := rfl
@[simp] theorem State.writeG_vscr (s : State) (r : GReg) (w : Word) : (s.writeG r w).vscr = s.vscr := rfl
@[simp] theorem State.writeG_vrsave (s : State) (r : GReg) (w : Word) : (s.writeG r w).vrsave = s.vrsave := rfl
@[simp] theorem State.writeG_srr0 (s : State) (r : GReg) (w : Word) : (s.writeG r w).srr0 = s.srr0 := rfl
@[simp] theorem State.writeG_srr1 (s : State) (r : GReg) (w : Word) : (s.writeG r w).srr1 = s.srr1 := rfl
@[simp] theorem State.writeG_dar (s : State) (r : GReg) (w : Word) : (s.writeG r w).dar = s.dar := rfl
@[simp] theorem State.writeG_dsisr (s : State) (r : GReg) (w : Word) : (s.writeG r w).dsisr = s.dsisr := rfl
@[simp] theorem State.writeG_streams (s : State) (r : GReg) (w : Word) : (s.writeG r w).streams = s.streams := rfl
@[simp] theorem State.writeG_mem (s : State) (r : GReg) (w : Word) : (s.writeG r w).mem = s.mem := rfl
@[simp] theorem State.writeG_base (s : State) (r : GReg) (w : Word) : (s.writeG r w).base = s.base := rfl
@[simp] theorem State.writeG_draws (s : State) (r : GReg) (w : Word) : (s.writeG r w).draws = s.draws := rfl

/-! ## `writeCR6` -/

@[simp] theorem State.writeCR6_vr (s : State) (f : BitVec 4) : (s.writeCR6 f).vr = s.vr := rfl
@[simp] theorem State.writeCR6_gpr (s : State) (f : BitVec 4) : (s.writeCR6 f).gpr = s.gpr := rfl
@[simp] theorem State.writeCR6_pc (s : State) (f : BitVec 4) : (s.writeCR6 f).pc = s.pc := rfl
@[simp] theorem State.writeCR6_cr (s : State) (f : BitVec 4) : (s.writeCR6 f).cr = (s.cr &&& ~~~cr6Mask) ||| (f.setWidth 32 <<< 4) := rfl
@[simp] theorem State.writeCR6_msr (s : State) (f : BitVec 4) : (s.writeCR6 f).msr = s.msr := rfl
@[simp] theorem State.writeCR6_vscr (s : State) (f : BitVec 4) : (s.writeCR6 f).vscr = s.vscr := rfl
@[simp] theorem State.writeCR6_vrsave (s : State) (f : BitVec 4) : (s.writeCR6 f).vrsave = s.vrsave := rfl
@[simp] theorem State.writeCR6_srr0 (s : State) (f : BitVec 4) : (s.writeCR6 f).srr0 = s.srr0 := rfl
@[simp] theorem State.writeCR6_srr1 (s : State) (f : BitVec 4) : (s.writeCR6 f).srr1 = s.srr1 := rfl
@[simp] theorem State.writeCR6_dar (s : State) (f : BitVec 4) : (s.writeCR6 f).dar = s.dar := rfl
@[simp] theorem State.writeCR6_dsisr (s : State) (f : BitVec 4) : (s.writeCR6 f).dsisr = s.dsisr := rfl
@[simp] theorem State.writeCR6_streams (s : State) (f : BitVec 4) : (s.writeCR6 f).streams = s.streams := rfl
@[simp] theorem State.writeCR6_mem (s : State) (f : BitVec 4) : (s.writeCR6 f).mem = s.mem := rfl
@[simp] theorem State.writeCR6_base (s : State) (f : BitVec 4) : (s.writeCR6 f).base = s.base := rfl
@[simp] theorem State.writeCR6_draws (s : State) (f : BitVec 4) : (s.writeCR6 f).draws = s.draws := rfl

/-! ## `setByte` -/

@[simp] theorem State.setByte_vr (s : State) (a : Word) (b : Byte) : (s.setByte a b).vr = s.vr := rfl
@[simp] theorem State.setByte_gpr (s : State) (a : Word) (b : Byte) : (s.setByte a b).gpr = s.gpr := rfl
@[simp] theorem State.setByte_pc (s : State) (a : Word) (b : Byte) : (s.setByte a b).pc = s.pc := rfl
@[simp] theorem State.setByte_cr (s : State) (a : Word) (b : Byte) : (s.setByte a b).cr = s.cr := rfl
@[simp] theorem State.setByte_msr (s : State) (a : Word) (b : Byte) : (s.setByte a b).msr = s.msr := rfl
@[simp] theorem State.setByte_vscr (s : State) (a : Word) (b : Byte) : (s.setByte a b).vscr = s.vscr := rfl
@[simp] theorem State.setByte_vrsave (s : State) (a : Word) (b : Byte) : (s.setByte a b).vrsave = s.vrsave := rfl
@[simp] theorem State.setByte_srr0 (s : State) (a : Word) (b : Byte) : (s.setByte a b).srr0 = s.srr0 := rfl
@[simp] theorem State.setByte_srr1 (s : State) (a : Word) (b : Byte) : (s.setByte a b).srr1 = s.srr1 := rfl
@[simp] theorem State.setByte_dar (s : State) (a : Word) (b : Byte) : (s.setByte a b).dar = s.dar := rfl
@[simp] theorem State.setByte_dsisr (s : State) (a : Word) (b : Byte) : (s.setByte a b).dsisr = s.dsisr := rfl
@[simp] theorem State.setByte_streams (s : State) (a : Word) (b : Byte) : (s.setByte a b).streams = s.streams := rfl
@[simp] theorem State.setByte_mem (s : State) (a : Word) (b : Byte) : (s.setByte a b).mem = Memory.write s.mem a.toNat b := rfl
@[simp] theorem State.setByte_base (s : State) (a : Word) (b : Byte) : (s.setByte a b).base = s.base := rfl
@[simp] theorem State.setByte_draws (s : State) (a : Word) (b : Byte) : (s.setByte a b).draws = s.draws := rfl

/-! ## `drawn` -/

@[simp] theorem State.drawn_vr (s : State) : s.drawn.vr = s.vr := rfl
@[simp] theorem State.drawn_gpr (s : State) : s.drawn.gpr = s.gpr := rfl
@[simp] theorem State.drawn_pc (s : State) : s.drawn.pc = s.pc := rfl
@[simp] theorem State.drawn_cr (s : State) : s.drawn.cr = s.cr := rfl
@[simp] theorem State.drawn_msr (s : State) : s.drawn.msr = s.msr := rfl
@[simp] theorem State.drawn_vscr (s : State) : s.drawn.vscr = s.vscr := rfl
@[simp] theorem State.drawn_vrsave (s : State) : s.drawn.vrsave = s.vrsave := rfl
@[simp] theorem State.drawn_srr0 (s : State) : s.drawn.srr0 = s.srr0 := rfl
@[simp] theorem State.drawn_srr1 (s : State) : s.drawn.srr1 = s.srr1 := rfl
@[simp] theorem State.drawn_dar (s : State) : s.drawn.dar = s.dar := rfl
@[simp] theorem State.drawn_dsisr (s : State) : s.drawn.dsisr = s.dsisr := rfl
@[simp] theorem State.drawn_streams (s : State) : s.drawn.streams = s.streams := rfl
@[simp] theorem State.drawn_mem (s : State) : s.drawn.mem = s.mem := rfl
@[simp] theorem State.drawn_base (s : State) : s.drawn.base = s.base := rfl
@[simp] theorem State.drawn_draws (s : State) : s.drawn.draws = s.draws + 1 := rfl

/-! ## `advance` -/

@[simp] theorem State.advance_vr (s : State) : s.advance.vr = s.vr := rfl
@[simp] theorem State.advance_gpr (s : State) : s.advance.gpr = s.gpr := rfl
@[simp] theorem State.advance_pc (s : State) : s.advance.pc = s.pc + 4 := rfl
@[simp] theorem State.advance_cr (s : State) : s.advance.cr = s.cr := rfl
@[simp] theorem State.advance_msr (s : State) : s.advance.msr = s.msr := rfl
@[simp] theorem State.advance_vscr (s : State) : s.advance.vscr = s.vscr := rfl
@[simp] theorem State.advance_vrsave (s : State) : s.advance.vrsave = s.vrsave := rfl
@[simp] theorem State.advance_srr0 (s : State) : s.advance.srr0 = s.srr0 := rfl
@[simp] theorem State.advance_srr1 (s : State) : s.advance.srr1 = s.srr1 := rfl
@[simp] theorem State.advance_dar (s : State) : s.advance.dar = s.dar := rfl
@[simp] theorem State.advance_dsisr (s : State) : s.advance.dsisr = s.dsisr := rfl
@[simp] theorem State.advance_streams (s : State) : s.advance.streams = s.streams := rfl
@[simp] theorem State.advance_mem (s : State) : s.advance.mem = s.mem := rfl
@[simp] theorem State.advance_base (s : State) : s.advance.base = s.base := rfl
@[simp] theorem State.advance_draws (s : State) : s.advance.draws = s.draws := rfl

/-! ## `takeException` -/

@[simp] theorem State.takeException_vr (s : State) (v c : Word) : (s.takeException v c).vr = s.vr := rfl
@[simp] theorem State.takeException_gpr (s : State) (v c : Word) : (s.takeException v c).gpr = s.gpr := rfl
@[simp] theorem State.takeException_pc (s : State) (v c : Word) : (s.takeException v c).pc = s.vectorBase + v := rfl
@[simp] theorem State.takeException_cr (s : State) (v c : Word) : (s.takeException v c).cr = s.cr := rfl
@[simp] theorem State.takeException_msr (s : State) (v c : Word) : (s.takeException v c).msr = entryMSR s.msr := rfl
@[simp] theorem State.takeException_vscr (s : State) (v c : Word) : (s.takeException v c).vscr = s.vscr := rfl
@[simp] theorem State.takeException_vrsave (s : State) (v c : Word) : (s.takeException v c).vrsave = s.vrsave := rfl
@[simp] theorem State.takeException_srr0 (s : State) (v c : Word) : (s.takeException v c).srr0 = s.pc := rfl
@[simp] theorem State.takeException_srr1 (s : State) (v c : Word) : (s.takeException v c).srr1 = (s.msr &&& savedMask) ||| c := rfl
@[simp] theorem State.takeException_dar (s : State) (v c : Word) : (s.takeException v c).dar = s.dar := rfl
@[simp] theorem State.takeException_dsisr (s : State) (v c : Word) : (s.takeException v c).dsisr = s.dsisr := rfl
@[simp] theorem State.takeException_streams (s : State) (v c : Word) : (s.takeException v c).streams = s.streams := rfl
@[simp] theorem State.takeException_mem (s : State) (v c : Word) : (s.takeException v c).mem = s.mem := rfl
@[simp] theorem State.takeException_base (s : State) (v c : Word) : (s.takeException v c).base = s.base := rfl
@[simp] theorem State.takeException_draws (s : State) (v c : Word) : (s.takeException v c).draws = s.draws := rfl

/-! ## `returnFromException` -/

@[simp] theorem State.returnFromException_vr (s : State) : s.returnFromException.vr = s.vr := rfl
@[simp] theorem State.returnFromException_gpr (s : State) : s.returnFromException.gpr = s.gpr := rfl
@[simp] theorem State.returnFromException_pc (s : State) : s.returnFromException.pc = s.srr0 &&& 0xFFFFFFFC := rfl
@[simp] theorem State.returnFromException_cr (s : State) : s.returnFromException.cr = s.cr := rfl
@[simp] theorem State.returnFromException_msr (s : State) : s.returnFromException.msr = (s.msr &&& ~~~savedMask) ||| (s.srr1 &&& savedMask) := rfl
@[simp] theorem State.returnFromException_vscr (s : State) : s.returnFromException.vscr = s.vscr := rfl
@[simp] theorem State.returnFromException_vrsave (s : State) : s.returnFromException.vrsave = s.vrsave := rfl
@[simp] theorem State.returnFromException_srr0 (s : State) : s.returnFromException.srr0 = s.srr0 := rfl
@[simp] theorem State.returnFromException_srr1 (s : State) : s.returnFromException.srr1 = s.srr1 := rfl
@[simp] theorem State.returnFromException_dar (s : State) : s.returnFromException.dar = s.dar := rfl
@[simp] theorem State.returnFromException_dsisr (s : State) : s.returnFromException.dsisr = s.dsisr := rfl
@[simp] theorem State.returnFromException_streams (s : State) : s.returnFromException.streams = s.streams := rfl
@[simp] theorem State.returnFromException_mem (s : State) : s.returnFromException.mem = s.mem := rfl
@[simp] theorem State.returnFromException_base (s : State) : s.returnFromException.base = s.base := rfl
@[simp] theorem State.returnFromException_draws (s : State) : s.returnFromException.draws = s.draws := rfl

/-! ## `stopStream` -/

@[simp] theorem State.stopStream_vr (s : State) (k : StreamId) : (s.stopStream k).vr = s.vr := rfl
@[simp] theorem State.stopStream_gpr (s : State) (k : StreamId) : (s.stopStream k).gpr = s.gpr := rfl
@[simp] theorem State.stopStream_pc (s : State) (k : StreamId) : (s.stopStream k).pc = s.pc := rfl
@[simp] theorem State.stopStream_cr (s : State) (k : StreamId) : (s.stopStream k).cr = s.cr := rfl
@[simp] theorem State.stopStream_msr (s : State) (k : StreamId) : (s.stopStream k).msr = s.msr := rfl
@[simp] theorem State.stopStream_vscr (s : State) (k : StreamId) : (s.stopStream k).vscr = s.vscr := rfl
@[simp] theorem State.stopStream_vrsave (s : State) (k : StreamId) : (s.stopStream k).vrsave = s.vrsave := rfl
@[simp] theorem State.stopStream_srr0 (s : State) (k : StreamId) : (s.stopStream k).srr0 = s.srr0 := rfl
@[simp] theorem State.stopStream_srr1 (s : State) (k : StreamId) : (s.stopStream k).srr1 = s.srr1 := rfl
@[simp] theorem State.stopStream_dar (s : State) (k : StreamId) : (s.stopStream k).dar = s.dar := rfl
@[simp] theorem State.stopStream_dsisr (s : State) (k : StreamId) : (s.stopStream k).dsisr = s.dsisr := rfl
@[simp] theorem State.stopStream_streams (s : State) (k : StreamId) : (s.stopStream k).streams = s.streams.set k.val none k.isLt := rfl
@[simp] theorem State.stopStream_mem (s : State) (k : StreamId) : (s.stopStream k).mem = s.mem := rfl
@[simp] theorem State.stopStream_base (s : State) (k : StreamId) : (s.stopStream k).base = s.base := rfl
@[simp] theorem State.stopStream_draws (s : State) (k : StreamId) : (s.stopStream k).draws = s.draws := rfl

/-! ## `stopAllStreams` -/

@[simp] theorem State.stopAllStreams_vr (s : State) : s.stopAllStreams.vr = s.vr := rfl
@[simp] theorem State.stopAllStreams_gpr (s : State) : s.stopAllStreams.gpr = s.gpr := rfl
@[simp] theorem State.stopAllStreams_pc (s : State) : s.stopAllStreams.pc = s.pc := rfl
@[simp] theorem State.stopAllStreams_cr (s : State) : s.stopAllStreams.cr = s.cr := rfl
@[simp] theorem State.stopAllStreams_msr (s : State) : s.stopAllStreams.msr = s.msr := rfl
@[simp] theorem State.stopAllStreams_vscr (s : State) : s.stopAllStreams.vscr = s.vscr := rfl
@[simp] theorem State.stopAllStreams_vrsave (s : State) : s.stopAllStreams.vrsave = s.vrsave := rfl
@[simp] theorem State.stopAllStreams_srr0 (s : State) : s.stopAllStreams.srr0 = s.srr0 := rfl
@[simp] theorem State.stopAllStreams_srr1 (s : State) : s.stopAllStreams.srr1 = s.srr1 := rfl
@[simp] theorem State.stopAllStreams_dar (s : State) : s.stopAllStreams.dar = s.dar := rfl
@[simp] theorem State.stopAllStreams_dsisr (s : State) : s.stopAllStreams.dsisr = s.dsisr := rfl
@[simp] theorem State.stopAllStreams_streams (s : State) : s.stopAllStreams.streams = Vector.replicate 4 none := rfl
@[simp] theorem State.stopAllStreams_mem (s : State) : s.stopAllStreams.mem = s.mem := rfl
@[simp] theorem State.stopAllStreams_base (s : State) : s.stopAllStreams.base = s.base := rfl
@[simp] theorem State.stopAllStreams_draws (s : State) : s.stopAllStreams.draws = s.draws := rfl

/-! ## `orSat`: only VSCR, and only when an element saturated -/

@[simp] theorem State.orSat_vr (s : State) (b : Bool) : (s.orSat b).vr = s.vr := by cases b <;> rfl
@[simp] theorem State.orSat_gpr (s : State) (b : Bool) : (s.orSat b).gpr = s.gpr := by cases b <;> rfl
@[simp] theorem State.orSat_pc (s : State) (b : Bool) : (s.orSat b).pc = s.pc := by cases b <;> rfl
@[simp] theorem State.orSat_cr (s : State) (b : Bool) : (s.orSat b).cr = s.cr := by cases b <;> rfl
@[simp] theorem State.orSat_msr (s : State) (b : Bool) : (s.orSat b).msr = s.msr := by cases b <;> rfl
@[simp] theorem State.orSat_vscr (s : State) (b : Bool) : (s.orSat b).vscr = if b then s.vscr ||| satMask else s.vscr := by
  cases b <;> rfl
@[simp] theorem State.orSat_vrsave (s : State) (b : Bool) : (s.orSat b).vrsave = s.vrsave := by cases b <;> rfl
@[simp] theorem State.orSat_srr0 (s : State) (b : Bool) : (s.orSat b).srr0 = s.srr0 := by cases b <;> rfl
@[simp] theorem State.orSat_srr1 (s : State) (b : Bool) : (s.orSat b).srr1 = s.srr1 := by cases b <;> rfl
@[simp] theorem State.orSat_dar (s : State) (b : Bool) : (s.orSat b).dar = s.dar := by cases b <;> rfl
@[simp] theorem State.orSat_dsisr (s : State) (b : Bool) : (s.orSat b).dsisr = s.dsisr := by cases b <;> rfl
@[simp] theorem State.orSat_streams (s : State) (b : Bool) : (s.orSat b).streams = s.streams := by cases b <;> rfl
@[simp] theorem State.orSat_mem (s : State) (b : Bool) : (s.orSat b).mem = s.mem := by cases b <;> rfl
@[simp] theorem State.orSat_base (s : State) (b : Bool) : (s.orSat b).base = s.base := by cases b <;> rfl
@[simp] theorem State.orSat_draws (s : State) (b : Bool) : (s.orSat b).draws = s.draws := by cases b <;> rfl

/-! ## `writeSat`, `writeCompare`, `writeBounds`: vD, and one flag -/

@[simp] theorem State.writeSat_gpr (s : State) (r : VReg) (d : Quad × Bool) : (s.writeSat r d).gpr = s.gpr := by
  simp [State.writeSat]
@[simp] theorem State.writeSat_pc (s : State) (r : VReg) (d : Quad × Bool) : (s.writeSat r d).pc = s.pc := by
  simp [State.writeSat]
@[simp] theorem State.writeSat_cr (s : State) (r : VReg) (d : Quad × Bool) : (s.writeSat r d).cr = s.cr := by
  simp [State.writeSat]
@[simp] theorem State.writeSat_msr (s : State) (r : VReg) (d : Quad × Bool) : (s.writeSat r d).msr = s.msr := by
  simp [State.writeSat]
@[simp] theorem State.writeSat_vrsave (s : State) (r : VReg) (d : Quad × Bool) : (s.writeSat r d).vrsave = s.vrsave := by
  simp [State.writeSat]
@[simp] theorem State.writeSat_srr0 (s : State) (r : VReg) (d : Quad × Bool) : (s.writeSat r d).srr0 = s.srr0 := by
  simp [State.writeSat]
@[simp] theorem State.writeSat_srr1 (s : State) (r : VReg) (d : Quad × Bool) : (s.writeSat r d).srr1 = s.srr1 := by
  simp [State.writeSat]
@[simp] theorem State.writeSat_dar (s : State) (r : VReg) (d : Quad × Bool) : (s.writeSat r d).dar = s.dar := by
  simp [State.writeSat]
@[simp] theorem State.writeSat_dsisr (s : State) (r : VReg) (d : Quad × Bool) : (s.writeSat r d).dsisr = s.dsisr := by
  simp [State.writeSat]
@[simp] theorem State.writeSat_streams (s : State) (r : VReg) (d : Quad × Bool) : (s.writeSat r d).streams = s.streams := by
  simp [State.writeSat]
@[simp] theorem State.writeSat_mem (s : State) (r : VReg) (d : Quad × Bool) : (s.writeSat r d).mem = s.mem := by
  simp [State.writeSat]
@[simp] theorem State.writeSat_base (s : State) (r : VReg) (d : Quad × Bool) : (s.writeSat r d).base = s.base := by
  simp [State.writeSat]
@[simp] theorem State.writeSat_draws (s : State) (r : VReg) (d : Quad × Bool) : (s.writeSat r d).draws = s.draws := by
  simp [State.writeSat]
@[simp] theorem State.writeSat_vr (s : State) (r : VReg) (d : Quad × Bool) :
    (s.writeSat r d).vr = s.vr.set r.val d.1 r.isLt := by
  simp [State.writeSat]
@[simp] theorem State.writeSat_vscr (s : State) (r : VReg) (d : Quad × Bool) :
    (s.writeSat r d).vscr = if d.2 then s.vscr ||| satMask else s.vscr := by
  simp [State.writeSat]
@[simp] theorem State.writeCompare_vr (s : State) (r : VReg) (rc : Bool) (d : Quad) : (s.writeCompare r rc d).vr = s.vr.set r.val d r.isLt := by
  cases rc <;> rfl
@[simp] theorem State.writeCompare_gpr (s : State) (r : VReg) (rc : Bool) (d : Quad) : (s.writeCompare r rc d).gpr = s.gpr := by cases rc <;> rfl
@[simp] theorem State.writeCompare_pc (s : State) (r : VReg) (rc : Bool) (d : Quad) : (s.writeCompare r rc d).pc = s.pc := by cases rc <;> rfl
@[simp] theorem State.writeCompare_cr (s : State) (r : VReg) (rc : Bool) (d : Quad) :
    (s.writeCompare r rc d).cr = if rc then (s.cr &&& ~~~cr6Mask) ||| ((compareCR6 d).setWidth 32 <<< 4) else s.cr := by
  cases rc <;> rfl
@[simp] theorem State.writeCompare_msr (s : State) (r : VReg) (rc : Bool) (d : Quad) : (s.writeCompare r rc d).msr = s.msr := by cases rc <;> rfl
@[simp] theorem State.writeCompare_vscr (s : State) (r : VReg) (rc : Bool) (d : Quad) : (s.writeCompare r rc d).vscr = s.vscr := by cases rc <;> rfl
@[simp] theorem State.writeCompare_vrsave (s : State) (r : VReg) (rc : Bool) (d : Quad) : (s.writeCompare r rc d).vrsave = s.vrsave := by cases rc <;> rfl
@[simp] theorem State.writeCompare_srr0 (s : State) (r : VReg) (rc : Bool) (d : Quad) : (s.writeCompare r rc d).srr0 = s.srr0 := by cases rc <;> rfl
@[simp] theorem State.writeCompare_srr1 (s : State) (r : VReg) (rc : Bool) (d : Quad) : (s.writeCompare r rc d).srr1 = s.srr1 := by cases rc <;> rfl
@[simp] theorem State.writeCompare_dar (s : State) (r : VReg) (rc : Bool) (d : Quad) : (s.writeCompare r rc d).dar = s.dar := by cases rc <;> rfl
@[simp] theorem State.writeCompare_dsisr (s : State) (r : VReg) (rc : Bool) (d : Quad) : (s.writeCompare r rc d).dsisr = s.dsisr := by cases rc <;> rfl
@[simp] theorem State.writeCompare_streams (s : State) (r : VReg) (rc : Bool) (d : Quad) : (s.writeCompare r rc d).streams = s.streams := by cases rc <;> rfl
@[simp] theorem State.writeCompare_mem (s : State) (r : VReg) (rc : Bool) (d : Quad) : (s.writeCompare r rc d).mem = s.mem := by cases rc <;> rfl
@[simp] theorem State.writeCompare_base (s : State) (r : VReg) (rc : Bool) (d : Quad) : (s.writeCompare r rc d).base = s.base := by cases rc <;> rfl
@[simp] theorem State.writeCompare_draws (s : State) (r : VReg) (rc : Bool) (d : Quad) : (s.writeCompare r rc d).draws = s.draws := by cases rc <;> rfl
@[simp] theorem State.writeBounds_vr (s : State) (r : VReg) (rc : Bool) (d : Quad) : (s.writeBounds r rc d).vr = s.vr.set r.val d r.isLt := by
  cases rc <;> rfl
@[simp] theorem State.writeBounds_gpr (s : State) (r : VReg) (rc : Bool) (d : Quad) : (s.writeBounds r rc d).gpr = s.gpr := by cases rc <;> rfl
@[simp] theorem State.writeBounds_pc (s : State) (r : VReg) (rc : Bool) (d : Quad) : (s.writeBounds r rc d).pc = s.pc := by cases rc <;> rfl
@[simp] theorem State.writeBounds_cr (s : State) (r : VReg) (rc : Bool) (d : Quad) :
    (s.writeBounds r rc d).cr = if rc then (s.cr &&& ~~~cr6Mask) ||| ((boundsCR6 d).setWidth 32 <<< 4) else s.cr := by
  cases rc <;> rfl
@[simp] theorem State.writeBounds_msr (s : State) (r : VReg) (rc : Bool) (d : Quad) : (s.writeBounds r rc d).msr = s.msr := by cases rc <;> rfl
@[simp] theorem State.writeBounds_vscr (s : State) (r : VReg) (rc : Bool) (d : Quad) : (s.writeBounds r rc d).vscr = s.vscr := by cases rc <;> rfl
@[simp] theorem State.writeBounds_vrsave (s : State) (r : VReg) (rc : Bool) (d : Quad) : (s.writeBounds r rc d).vrsave = s.vrsave := by cases rc <;> rfl
@[simp] theorem State.writeBounds_srr0 (s : State) (r : VReg) (rc : Bool) (d : Quad) : (s.writeBounds r rc d).srr0 = s.srr0 := by cases rc <;> rfl
@[simp] theorem State.writeBounds_srr1 (s : State) (r : VReg) (rc : Bool) (d : Quad) : (s.writeBounds r rc d).srr1 = s.srr1 := by cases rc <;> rfl
@[simp] theorem State.writeBounds_dar (s : State) (r : VReg) (rc : Bool) (d : Quad) : (s.writeBounds r rc d).dar = s.dar := by cases rc <;> rfl
@[simp] theorem State.writeBounds_dsisr (s : State) (r : VReg) (rc : Bool) (d : Quad) : (s.writeBounds r rc d).dsisr = s.dsisr := by cases rc <;> rfl
@[simp] theorem State.writeBounds_streams (s : State) (r : VReg) (rc : Bool) (d : Quad) : (s.writeBounds r rc d).streams = s.streams := by cases rc <;> rfl
@[simp] theorem State.writeBounds_mem (s : State) (r : VReg) (rc : Bool) (d : Quad) : (s.writeBounds r rc d).mem = s.mem := by cases rc <;> rfl
@[simp] theorem State.writeBounds_base (s : State) (r : VReg) (rc : Bool) (d : Quad) : (s.writeBounds r rc d).base = s.base := by cases rc <;> rfl
@[simp] theorem State.writeBounds_draws (s : State) (r : VReg) (rc : Bool) (d : Quad) : (s.writeBounds r rc d).draws = s.draws := by cases rc <;> rfl

/-! ## `storeNat`, `memWrite`, `storeElement`, `storeQuad`: only memory -/

@[simp] theorem State.storeNat_vr (s : State) (a : Word) (n v m : Nat) : (s.storeNat a n v m).vr = s.vr := by
  induction m generalizing s with
  | zero => rfl
  | succ m ih => simp [State.storeNat, ih]
@[simp] theorem State.memWrite_vr (s : State) (a : Word) (n : Nat) (v : BitVec (8 * n)) : (s.memWrite a n v).vr = s.vr := by
  simp [State.memWrite]
@[simp] theorem State.storeElement_vr (s : State) (n : Nat) (r : VReg) (a : Word) : (s.storeElement n r a).vr = s.vr := by
  simp [State.storeElement]
@[simp] theorem State.storeQuad_vr (s : State) (a : Word) (q : Quad) : (s.storeQuad a q).vr = s.vr := by
  unfold State.storeQuad
  split <;> simp
@[simp] theorem State.storeNat_gpr (s : State) (a : Word) (n v m : Nat) : (s.storeNat a n v m).gpr = s.gpr := by
  induction m generalizing s with
  | zero => rfl
  | succ m ih => simp [State.storeNat, ih]
@[simp] theorem State.memWrite_gpr (s : State) (a : Word) (n : Nat) (v : BitVec (8 * n)) : (s.memWrite a n v).gpr = s.gpr := by
  simp [State.memWrite]
@[simp] theorem State.storeElement_gpr (s : State) (n : Nat) (r : VReg) (a : Word) : (s.storeElement n r a).gpr = s.gpr := by
  simp [State.storeElement]
@[simp] theorem State.storeQuad_gpr (s : State) (a : Word) (q : Quad) : (s.storeQuad a q).gpr = s.gpr := by
  unfold State.storeQuad
  split <;> simp
@[simp] theorem State.storeNat_pc (s : State) (a : Word) (n v m : Nat) : (s.storeNat a n v m).pc = s.pc := by
  induction m generalizing s with
  | zero => rfl
  | succ m ih => simp [State.storeNat, ih]
@[simp] theorem State.memWrite_pc (s : State) (a : Word) (n : Nat) (v : BitVec (8 * n)) : (s.memWrite a n v).pc = s.pc := by
  simp [State.memWrite]
@[simp] theorem State.storeElement_pc (s : State) (n : Nat) (r : VReg) (a : Word) : (s.storeElement n r a).pc = s.pc := by
  simp [State.storeElement]
@[simp] theorem State.storeQuad_pc (s : State) (a : Word) (q : Quad) : (s.storeQuad a q).pc = s.pc := by
  unfold State.storeQuad
  split <;> simp
@[simp] theorem State.storeNat_cr (s : State) (a : Word) (n v m : Nat) : (s.storeNat a n v m).cr = s.cr := by
  induction m generalizing s with
  | zero => rfl
  | succ m ih => simp [State.storeNat, ih]
@[simp] theorem State.memWrite_cr (s : State) (a : Word) (n : Nat) (v : BitVec (8 * n)) : (s.memWrite a n v).cr = s.cr := by
  simp [State.memWrite]
@[simp] theorem State.storeElement_cr (s : State) (n : Nat) (r : VReg) (a : Word) : (s.storeElement n r a).cr = s.cr := by
  simp [State.storeElement]
@[simp] theorem State.storeQuad_cr (s : State) (a : Word) (q : Quad) : (s.storeQuad a q).cr = s.cr := by
  unfold State.storeQuad
  split <;> simp
@[simp] theorem State.storeNat_msr (s : State) (a : Word) (n v m : Nat) : (s.storeNat a n v m).msr = s.msr := by
  induction m generalizing s with
  | zero => rfl
  | succ m ih => simp [State.storeNat, ih]
@[simp] theorem State.memWrite_msr (s : State) (a : Word) (n : Nat) (v : BitVec (8 * n)) : (s.memWrite a n v).msr = s.msr := by
  simp [State.memWrite]
@[simp] theorem State.storeElement_msr (s : State) (n : Nat) (r : VReg) (a : Word) : (s.storeElement n r a).msr = s.msr := by
  simp [State.storeElement]
@[simp] theorem State.storeQuad_msr (s : State) (a : Word) (q : Quad) : (s.storeQuad a q).msr = s.msr := by
  unfold State.storeQuad
  split <;> simp
@[simp] theorem State.storeNat_vscr (s : State) (a : Word) (n v m : Nat) : (s.storeNat a n v m).vscr = s.vscr := by
  induction m generalizing s with
  | zero => rfl
  | succ m ih => simp [State.storeNat, ih]
@[simp] theorem State.memWrite_vscr (s : State) (a : Word) (n : Nat) (v : BitVec (8 * n)) : (s.memWrite a n v).vscr = s.vscr := by
  simp [State.memWrite]
@[simp] theorem State.storeElement_vscr (s : State) (n : Nat) (r : VReg) (a : Word) : (s.storeElement n r a).vscr = s.vscr := by
  simp [State.storeElement]
@[simp] theorem State.storeQuad_vscr (s : State) (a : Word) (q : Quad) : (s.storeQuad a q).vscr = s.vscr := by
  unfold State.storeQuad
  split <;> simp
@[simp] theorem State.storeNat_vrsave (s : State) (a : Word) (n v m : Nat) : (s.storeNat a n v m).vrsave = s.vrsave := by
  induction m generalizing s with
  | zero => rfl
  | succ m ih => simp [State.storeNat, ih]
@[simp] theorem State.memWrite_vrsave (s : State) (a : Word) (n : Nat) (v : BitVec (8 * n)) : (s.memWrite a n v).vrsave = s.vrsave := by
  simp [State.memWrite]
@[simp] theorem State.storeElement_vrsave (s : State) (n : Nat) (r : VReg) (a : Word) : (s.storeElement n r a).vrsave = s.vrsave := by
  simp [State.storeElement]
@[simp] theorem State.storeQuad_vrsave (s : State) (a : Word) (q : Quad) : (s.storeQuad a q).vrsave = s.vrsave := by
  unfold State.storeQuad
  split <;> simp
@[simp] theorem State.storeNat_srr0 (s : State) (a : Word) (n v m : Nat) : (s.storeNat a n v m).srr0 = s.srr0 := by
  induction m generalizing s with
  | zero => rfl
  | succ m ih => simp [State.storeNat, ih]
@[simp] theorem State.memWrite_srr0 (s : State) (a : Word) (n : Nat) (v : BitVec (8 * n)) : (s.memWrite a n v).srr0 = s.srr0 := by
  simp [State.memWrite]
@[simp] theorem State.storeElement_srr0 (s : State) (n : Nat) (r : VReg) (a : Word) : (s.storeElement n r a).srr0 = s.srr0 := by
  simp [State.storeElement]
@[simp] theorem State.storeQuad_srr0 (s : State) (a : Word) (q : Quad) : (s.storeQuad a q).srr0 = s.srr0 := by
  unfold State.storeQuad
  split <;> simp
@[simp] theorem State.storeNat_srr1 (s : State) (a : Word) (n v m : Nat) : (s.storeNat a n v m).srr1 = s.srr1 := by
  induction m generalizing s with
  | zero => rfl
  | succ m ih => simp [State.storeNat, ih]
@[simp] theorem State.memWrite_srr1 (s : State) (a : Word) (n : Nat) (v : BitVec (8 * n)) : (s.memWrite a n v).srr1 = s.srr1 := by
  simp [State.memWrite]
@[simp] theorem State.storeElement_srr1 (s : State) (n : Nat) (r : VReg) (a : Word) : (s.storeElement n r a).srr1 = s.srr1 := by
  simp [State.storeElement]
@[simp] theorem State.storeQuad_srr1 (s : State) (a : Word) (q : Quad) : (s.storeQuad a q).srr1 = s.srr1 := by
  unfold State.storeQuad
  split <;> simp
@[simp] theorem State.storeNat_dar (s : State) (a : Word) (n v m : Nat) : (s.storeNat a n v m).dar = s.dar := by
  induction m generalizing s with
  | zero => rfl
  | succ m ih => simp [State.storeNat, ih]
@[simp] theorem State.memWrite_dar (s : State) (a : Word) (n : Nat) (v : BitVec (8 * n)) : (s.memWrite a n v).dar = s.dar := by
  simp [State.memWrite]
@[simp] theorem State.storeElement_dar (s : State) (n : Nat) (r : VReg) (a : Word) : (s.storeElement n r a).dar = s.dar := by
  simp [State.storeElement]
@[simp] theorem State.storeQuad_dar (s : State) (a : Word) (q : Quad) : (s.storeQuad a q).dar = s.dar := by
  unfold State.storeQuad
  split <;> simp
@[simp] theorem State.storeNat_dsisr (s : State) (a : Word) (n v m : Nat) : (s.storeNat a n v m).dsisr = s.dsisr := by
  induction m generalizing s with
  | zero => rfl
  | succ m ih => simp [State.storeNat, ih]
@[simp] theorem State.memWrite_dsisr (s : State) (a : Word) (n : Nat) (v : BitVec (8 * n)) : (s.memWrite a n v).dsisr = s.dsisr := by
  simp [State.memWrite]
@[simp] theorem State.storeElement_dsisr (s : State) (n : Nat) (r : VReg) (a : Word) : (s.storeElement n r a).dsisr = s.dsisr := by
  simp [State.storeElement]
@[simp] theorem State.storeQuad_dsisr (s : State) (a : Word) (q : Quad) : (s.storeQuad a q).dsisr = s.dsisr := by
  unfold State.storeQuad
  split <;> simp
@[simp] theorem State.storeNat_streams (s : State) (a : Word) (n v m : Nat) : (s.storeNat a n v m).streams = s.streams := by
  induction m generalizing s with
  | zero => rfl
  | succ m ih => simp [State.storeNat, ih]
@[simp] theorem State.memWrite_streams (s : State) (a : Word) (n : Nat) (v : BitVec (8 * n)) : (s.memWrite a n v).streams = s.streams := by
  simp [State.memWrite]
@[simp] theorem State.storeElement_streams (s : State) (n : Nat) (r : VReg) (a : Word) : (s.storeElement n r a).streams = s.streams := by
  simp [State.storeElement]
@[simp] theorem State.storeQuad_streams (s : State) (a : Word) (q : Quad) : (s.storeQuad a q).streams = s.streams := by
  unfold State.storeQuad
  split <;> simp
@[simp] theorem State.storeNat_base (s : State) (a : Word) (n v m : Nat) : (s.storeNat a n v m).base = s.base := by
  induction m generalizing s with
  | zero => rfl
  | succ m ih => simp [State.storeNat, ih]
@[simp] theorem State.memWrite_base (s : State) (a : Word) (n : Nat) (v : BitVec (8 * n)) : (s.memWrite a n v).base = s.base := by
  simp [State.memWrite]
@[simp] theorem State.storeElement_base (s : State) (n : Nat) (r : VReg) (a : Word) : (s.storeElement n r a).base = s.base := by
  simp [State.storeElement]
@[simp] theorem State.storeQuad_base (s : State) (a : Word) (q : Quad) : (s.storeQuad a q).base = s.base := by
  unfold State.storeQuad
  split <;> simp
@[simp] theorem State.storeNat_draws (s : State) (a : Word) (n v m : Nat) : (s.storeNat a n v m).draws = s.draws := by
  induction m generalizing s with
  | zero => rfl
  | succ m ih => simp [State.storeNat, ih]
@[simp] theorem State.memWrite_draws (s : State) (a : Word) (n : Nat) (v : BitVec (8 * n)) : (s.memWrite a n v).draws = s.draws := by
  simp [State.memWrite]
@[simp] theorem State.storeElement_draws (s : State) (n : Nat) (r : VReg) (a : Word) : (s.storeElement n r a).draws = s.draws := by
  simp [State.storeElement]
@[simp] theorem State.storeQuad_draws (s : State) (a : Word) (q : Quad) : (s.storeQuad a q).draws = s.draws := by
  unfold State.storeQuad
  split <;> simp

/-! ## `loadElement`: vD and the draw -/

@[simp] theorem State.loadElement_gpr (s : State) (n : Nat) (r : VReg) (a : Word) : (s.loadElement n r a).gpr = s.gpr := rfl
@[simp] theorem State.loadElement_pc (s : State) (n : Nat) (r : VReg) (a : Word) : (s.loadElement n r a).pc = s.pc := rfl
@[simp] theorem State.loadElement_cr (s : State) (n : Nat) (r : VReg) (a : Word) : (s.loadElement n r a).cr = s.cr := rfl
@[simp] theorem State.loadElement_msr (s : State) (n : Nat) (r : VReg) (a : Word) : (s.loadElement n r a).msr = s.msr := rfl
@[simp] theorem State.loadElement_vscr (s : State) (n : Nat) (r : VReg) (a : Word) : (s.loadElement n r a).vscr = s.vscr := rfl
@[simp] theorem State.loadElement_vrsave (s : State) (n : Nat) (r : VReg) (a : Word) : (s.loadElement n r a).vrsave = s.vrsave := rfl
@[simp] theorem State.loadElement_srr0 (s : State) (n : Nat) (r : VReg) (a : Word) : (s.loadElement n r a).srr0 = s.srr0 := rfl
@[simp] theorem State.loadElement_srr1 (s : State) (n : Nat) (r : VReg) (a : Word) : (s.loadElement n r a).srr1 = s.srr1 := rfl
@[simp] theorem State.loadElement_dar (s : State) (n : Nat) (r : VReg) (a : Word) : (s.loadElement n r a).dar = s.dar := rfl
@[simp] theorem State.loadElement_dsisr (s : State) (n : Nat) (r : VReg) (a : Word) : (s.loadElement n r a).dsisr = s.dsisr := rfl
@[simp] theorem State.loadElement_streams (s : State) (n : Nat) (r : VReg) (a : Word) : (s.loadElement n r a).streams = s.streams := rfl
@[simp] theorem State.loadElement_mem (s : State) (n : Nat) (r : VReg) (a : Word) : (s.loadElement n r a).mem = s.mem := rfl
@[simp] theorem State.loadElement_base (s : State) (n : Nat) (r : VReg) (a : Word) : (s.loadElement n r a).base = s.base := rfl

/-! ## `touch`: only the slots -/

@[simp] theorem State.touch_vr (s : State) (k : StreamKind) (t : Bool) (i : StreamId) (rA rB : GReg) :
    (s.touch k t i rA rB).vr = s.vr := by
  unfold State.touch
  split <;> rfl
@[simp] theorem State.touch_gpr (s : State) (k : StreamKind) (t : Bool) (i : StreamId) (rA rB : GReg) :
    (s.touch k t i rA rB).gpr = s.gpr := by
  unfold State.touch
  split <;> rfl
@[simp] theorem State.touch_pc (s : State) (k : StreamKind) (t : Bool) (i : StreamId) (rA rB : GReg) :
    (s.touch k t i rA rB).pc = s.pc := by
  unfold State.touch
  split <;> rfl
@[simp] theorem State.touch_cr (s : State) (k : StreamKind) (t : Bool) (i : StreamId) (rA rB : GReg) :
    (s.touch k t i rA rB).cr = s.cr := by
  unfold State.touch
  split <;> rfl
@[simp] theorem State.touch_msr (s : State) (k : StreamKind) (t : Bool) (i : StreamId) (rA rB : GReg) :
    (s.touch k t i rA rB).msr = s.msr := by
  unfold State.touch
  split <;> rfl
@[simp] theorem State.touch_vscr (s : State) (k : StreamKind) (t : Bool) (i : StreamId) (rA rB : GReg) :
    (s.touch k t i rA rB).vscr = s.vscr := by
  unfold State.touch
  split <;> rfl
@[simp] theorem State.touch_vrsave (s : State) (k : StreamKind) (t : Bool) (i : StreamId) (rA rB : GReg) :
    (s.touch k t i rA rB).vrsave = s.vrsave := by
  unfold State.touch
  split <;> rfl
@[simp] theorem State.touch_srr0 (s : State) (k : StreamKind) (t : Bool) (i : StreamId) (rA rB : GReg) :
    (s.touch k t i rA rB).srr0 = s.srr0 := by
  unfold State.touch
  split <;> rfl
@[simp] theorem State.touch_srr1 (s : State) (k : StreamKind) (t : Bool) (i : StreamId) (rA rB : GReg) :
    (s.touch k t i rA rB).srr1 = s.srr1 := by
  unfold State.touch
  split <;> rfl
@[simp] theorem State.touch_dar (s : State) (k : StreamKind) (t : Bool) (i : StreamId) (rA rB : GReg) :
    (s.touch k t i rA rB).dar = s.dar := by
  unfold State.touch
  split <;> rfl
@[simp] theorem State.touch_dsisr (s : State) (k : StreamKind) (t : Bool) (i : StreamId) (rA rB : GReg) :
    (s.touch k t i rA rB).dsisr = s.dsisr := by
  unfold State.touch
  split <;> rfl
@[simp] theorem State.touch_mem (s : State) (k : StreamKind) (t : Bool) (i : StreamId) (rA rB : GReg) :
    (s.touch k t i rA rB).mem = s.mem := by
  unfold State.touch
  split <;> rfl
@[simp] theorem State.touch_base (s : State) (k : StreamKind) (t : Bool) (i : StreamId) (rA rB : GReg) :
    (s.touch k t i rA rB).base = s.base := by
  unfold State.touch
  split <;> rfl
@[simp] theorem State.touch_draws (s : State) (k : StreamKind) (t : Bool) (i : StreamId) (rA rB : GReg) :
    (s.touch k t i rA rB).draws = s.draws := by
  unfold State.touch
  split <;> rfl

/-! ## `prefetch`: only the slots and the draw -/

@[simp] theorem State.prefetch_vr (s : State) : s.prefetch.vr = s.vr := by
  unfold State.prefetch
  split <;> rfl
@[simp] theorem State.prefetch_gpr (s : State) : s.prefetch.gpr = s.gpr := by
  unfold State.prefetch
  split <;> rfl
@[simp] theorem State.prefetch_pc (s : State) : s.prefetch.pc = s.pc := by
  unfold State.prefetch
  split <;> rfl
@[simp] theorem State.prefetch_cr (s : State) : s.prefetch.cr = s.cr := by
  unfold State.prefetch
  split <;> rfl
@[simp] theorem State.prefetch_msr (s : State) : s.prefetch.msr = s.msr := by
  unfold State.prefetch
  split <;> rfl
@[simp] theorem State.prefetch_vscr (s : State) : s.prefetch.vscr = s.vscr := by
  unfold State.prefetch
  split <;> rfl
@[simp] theorem State.prefetch_vrsave (s : State) : s.prefetch.vrsave = s.vrsave := by
  unfold State.prefetch
  split <;> rfl
@[simp] theorem State.prefetch_srr0 (s : State) : s.prefetch.srr0 = s.srr0 := by
  unfold State.prefetch
  split <;> rfl
@[simp] theorem State.prefetch_srr1 (s : State) : s.prefetch.srr1 = s.srr1 := by
  unfold State.prefetch
  split <;> rfl
@[simp] theorem State.prefetch_dar (s : State) : s.prefetch.dar = s.dar := by
  unfold State.prefetch
  split <;> rfl
@[simp] theorem State.prefetch_dsisr (s : State) : s.prefetch.dsisr = s.dsisr := by
  unfold State.prefetch
  split <;> rfl
@[simp] theorem State.prefetch_mem (s : State) : s.prefetch.mem = s.mem := by
  unfold State.prefetch
  split <;> rfl
@[simp] theorem State.prefetch_base (s : State) : s.prefetch.base = s.base := by
  unfold State.prefetch
  split <;> rfl

/-! ## Readers of an updated state -/

/-- A read of a register file is a read of its field. -/
theorem State.readV_congr {s t : State} (h : t.vr = s.vr) (r : VReg) : t.readV r = s.readV r := by
  simp [State.readV, h]

/-- A read of a byte is a read of memory. -/
theorem State.byte_congr {s t : State} (h : t.mem = s.mem) (a : Word) : t.byte a = s.byte a := by
  simp [State.byte, h]

/-- A slot of a vector that has just been set. -/
theorem get_set_self {α : Type} {n : Nat} (v : Vector α n) (i : Fin n) (x : α) : (v.set i.val x i.isLt).get i = x := by
  change (v.set i.val x i.isLt)[i.val] = x
  simp

/-- The other slots of a vector. -/
theorem get_set_ne {α : Type} {n : Nat} (v : Vector α n) {i j : Fin n} (x : α) (h : j ≠ i) :
    (v.set i.val x i.isLt).get j = v.get j := by
  have : i.val ≠ j.val := fun e => h (Fin.ext e.symm)
  change (v.set i.val x i.isLt)[j.val] = v[j.val]
  simp [this]

/-- A vector register that has just been written holds what was written. -/
theorem State.readV_of_vr_set {s t : State} {r : VReg} {q : Quad} (h : t.vr = s.vr.set r.val q r.isLt) : t.readV r = q := by
  rw [State.readV, h, get_set_self]

/-- The other vector registers are as before. -/
theorem State.readV_of_vr_set_ne {s t : State} {r : VReg} {q : Quad} (h : t.vr = s.vr.set r.val q r.isLt) {p : VReg}
    (hp : p ≠ r) : t.readV p = s.readV p := by
  rw [State.readV, h, get_set_ne _ _ hp, State.readV]

@[simp] theorem State.readV_writeV_self (s : State) (r : VReg) (q : Quad) : (s.writeV r q).readV r = q :=
  State.readV_of_vr_set rfl

theorem State.readV_writeV_ne (s : State) {r p : VReg} (q : Quad) (hp : p ≠ r) : (s.writeV r q).readV p = s.readV p :=
  State.readV_of_vr_set_ne rfl hp

@[simp] theorem State.readG_writeG_self (s : State) (r : GReg) (w : Word) : (s.writeG r w).readG r = w :=
  get_set_self _ _ _

theorem State.readG_writeG_ne (s : State) {r p : GReg} (w : Word) (hp : p ≠ r) : (s.writeG r w).readG p = s.readG p :=
  get_set_ne _ _ hp

@[simp] theorem State.readV_advance (s : State) (r : VReg) : s.advance.readV r = s.readV r := rfl
@[simp] theorem State.byte_advance (s : State) (a : Word) : s.advance.byte a = s.byte a := rfl
@[simp] theorem State.readV_drawn (s : State) (r : VReg) : s.drawn.readV r = s.readV r := rfl
@[simp] theorem State.byte_drawn (s : State) (a : Word) : s.drawn.byte a = s.byte a := rfl
@[simp] theorem State.readV_prefetch (s : State) (r : VReg) : s.prefetch.readV r = s.readV r :=
  State.readV_congr (State.prefetch_vr s) r
@[simp] theorem State.byte_prefetch (s : State) (a : Word) : s.prefetch.byte a = s.byte a :=
  State.byte_congr (State.prefetch_mem s) a
@[simp] theorem State.byte_writeV (s : State) (r : VReg) (q : Quad) (a : Word) : (s.writeV r q).byte a = s.byte a := rfl

end Sys2Proof.Machine
end

