-- ==== Sys2Proof/Laws/Memory.lean ====
section
/-! SUPPORT. Memory: reading after writing, and the canonical form, which every write keeps. -/
namespace Sys2Proof.Machine

/-- A cell below every listed address reads as unlisted. -/
theorem Memory.read_of_wfFrom {lo a : Nat} {m : List Host.Cell} (h : Memory.wfFrom lo m = true) (ha : a < lo) :
    Memory.read m a = unlistedByte := by
  induction m generalizing lo with
  | nil => rfl
  | cons c rest ih =>
    obtain ⟨k, b⟩ := c
    simp only [Memory.wfFrom, Bool.and_eq_true, decide_eq_true_eq] at h
    have hne : a ≠ k := by omega
    simp only [Memory.read, hne, if_false]
    exact ih h.2 (by omega)

/-- The lower bound of the canonical form may be lowered. -/
theorem Memory.wfFrom_mono {lo lo' : Nat} {m : List Host.Cell} (hle : lo' ≤ lo) (h : Memory.wfFrom lo m = true) :
    Memory.wfFrom lo' m = true := by
  cases m with
  | nil => rfl
  | cons c rest =>
    obtain ⟨k, b⟩ := c
    simp only [Memory.wfFrom, Bool.and_eq_true, decide_eq_true_eq] at h ⊢
    exact ⟨⟨⟨by omega, h.1.1.2⟩, h.1.2⟩, h.2⟩

/-- A write leaves every other address alone. -/
theorem Memory.read_write_ne (m : List Host.Cell) {a a' : Nat} (b : Byte) (h : a' ≠ a) :
    Memory.read (Memory.write m a b) a' = Memory.read m a' := by
  induction m with
  | nil =>
    simp only [Memory.write]
    split <;> simp [Memory.read, h]
  | cons c rest ih =>
    obtain ⟨k, v⟩ := c
    simp only [Memory.write]
    split
    · split <;> simp [Memory.read, h]
    · split
      · next hk => subst hk; split <;> simp [Memory.read, h]
      · simp only [Memory.read, ih]

/-- A write to memory in canonical form is read back. -/
theorem Memory.read_write_self {lo : Nat} {m : List Host.Cell} (hm : Memory.wfFrom lo m = true) (a : Nat) (b : Byte) :
    Memory.read (Memory.write m a b) a = b := by
  induction m generalizing lo with
  | nil =>
    simp only [Memory.write]
    split
    · next h => simp [Memory.read, h]
    · simp [Memory.read]
  | cons c rest ih =>
    obtain ⟨k, v⟩ := c
    simp only [Memory.wfFrom, Bool.and_eq_true, decide_eq_true_eq] at hm
    simp only [Memory.write]
    split
    · next hlt =>
      split
      · next hb =>
        have hne : a ≠ k := by omega
        simp only [Memory.read, hne, if_false, hb]
        exact Memory.read_of_wfFrom hm.2 (by omega)
      · simp [Memory.read]
    · split
      · next hk =>
        split
        · next hb => rw [hb]; exact Memory.read_of_wfFrom hm.2 (by omega)
        · simp [Memory.read]
      · next hk =>
        simp only [Memory.read, hk, if_false]
        exact ih hm.2

/-- A write below 2^32 keeps the canonical form. -/
theorem Memory.wfFrom_write {lo : Nat} {m : List Host.Cell} (hm : Memory.wfFrom lo m = true) {a : Nat} (hlo : lo ≤ a)
    (ha : a < 2 ^ 32) (b : Byte) : Memory.wfFrom lo (Memory.write m a b) = true := by
  induction m generalizing lo with
  | nil =>
    simp only [Memory.write]
    split
    · rfl
    · next hb => simpa [Memory.wfFrom, hlo, hb] using ha
  | cons c rest ih =>
    obtain ⟨k, v⟩ := c
    have hm' := hm
    simp only [Memory.wfFrom, Bool.and_eq_true, decide_eq_true_eq] at hm'
    obtain ⟨⟨⟨h1, h2⟩, h3⟩, h4⟩ := hm'
    simp only [Memory.write]
    split
    · next hlt =>
      split
      · exact hm
      · next hb =>
        simp only [Memory.wfFrom, Bool.and_eq_true, decide_eq_true_eq]
        exact ⟨⟨⟨hlo, ha⟩, by simpa using hb⟩, ⟨⟨⟨by omega, h2⟩, h3⟩, h4⟩⟩
    · split
      · next hk =>
        subst hk
        split
        · exact Memory.wfFrom_mono (by omega) h4
        · next hb =>
          simp only [Memory.wfFrom, Bool.and_eq_true, decide_eq_true_eq]
          exact ⟨⟨⟨h1, h2⟩, by simpa using hb⟩, h4⟩
      · next hk =>
        simp only [Memory.wfFrom, Bool.and_eq_true, decide_eq_true_eq]
        exact ⟨⟨⟨h1, h2⟩, h3⟩, ih h4 (by omega)⟩

/-- Mem[a] after Mem[a] <- b. -/
theorem State.byte_setByte_self {s : State} (hm : Memory.wf s.mem = true) (a : Word) (b : Byte) : (s.setByte a b).byte a = b :=
  Memory.read_write_self hm _ _

/-- Every other byte after Mem[a] <- b. -/
theorem State.byte_setByte_ne (s : State) {a a' : Word} (b : Byte) (h : a' ≠ a) : (s.setByte a b).byte a' = s.byte a' :=
  Memory.read_write_ne _ _ fun e => h (BitVec.eq_of_toNat_eq e)

/-- Mem[a] <- b keeps the canonical form. -/
theorem State.setByte_keeps_wf {s : State} (hm : Memory.wf s.mem = true) (a : Word) (b : Byte) :
    Memory.wf (s.setByte a b).mem = true :=
  Memory.wfFrom_write hm (Nat.zero_le _) a.isLt b

/-- A store of any length keeps the canonical form. -/
theorem State.storeNat_keeps_wf {s : State} (hm : Memory.wf s.mem = true) (a : Word) (n v m : Nat) :
    Memory.wf (s.storeNat a n v m).mem = true := by
  induction m generalizing s with
  | zero => exact hm
  | succ m ih => exact ih (State.setByte_keeps_wf hm _ _)

/-- MemWrite keeps the canonical form. -/
theorem State.memWrite_keeps_wf {s : State} (hm : Memory.wf s.mem = true) (a : Word) (n : Nat) (v : BitVec (8 * n)) :
    Memory.wf (s.memWrite a n v).mem = true :=
  State.storeNat_keeps_wf hm _ _ _ _

/-- An element store keeps the canonical form. -/
theorem State.storeElement_keeps_wf {s : State} (hm : Memory.wf s.mem = true) (n : Nat) (r : VReg) (a : Word) :
    Memory.wf (s.storeElement n r a).mem = true :=
  State.memWrite_keeps_wf hm _ _ _

/-- A quad-word store keeps the canonical form. -/
theorem State.storeQuad_keeps_wf {s : State} (hm : Memory.wf s.mem = true) (a : Word) (q : Quad) :
    Memory.wf (s.storeQuad a q).mem = true := by
  unfold State.storeQuad
  split
  · exact State.memWrite_keeps_wf (State.memWrite_keeps_wf hm _ _ _) _ _ _
  · exact State.memWrite_keeps_wf hm _ _ _

/-- The memory of the machine right after reset is in canonical form. -/
theorem State.reset_mem_wf : Memory.wf State.reset.mem = true := rfl

/-- A byte outside the first `m` bytes from `a` is not changed by a store of them. -/
theorem State.byte_storeNat_ne (s : State) (a : Word) (n v m : Nat) (x : Word)
    (h : ∀ j, j < m → x ≠ a + BitVec.ofNat 32 j) : (s.storeNat a n v m).byte x = s.byte x := by
  induction m generalizing s with
  | zero => rfl
  | succ m ih =>
    rw [State.storeNat, ih _ fun j hj => h j (by omega), State.byte_setByte_ne _ _ (h m (by omega))]

/-- A stored byte is read back: byte `j` of the n-byte string, counted from the most significant. -/
theorem State.byte_storeNat {s : State} (hm : Memory.wf s.mem = true) (a : Word) (n v m j : Nat) (hj : j < m) (hmn : m ≤ 2 ^ 32) :
    (s.storeNat a n v m).byte (a + BitVec.ofNat 32 j) = BitVec.ofNat 8 (v / 256 ^ (n - 1 - j)) := by
  induction m generalizing s with
  | zero => omega
  | succ m ih =>
    rcases Nat.lt_succ_iff_lt_or_eq.mp hj with h | rfl
    · exact ih (State.setByte_keeps_wf hm _ _) h (by omega)
    · rw [State.storeNat, State.byte_storeNat_ne, State.byte_setByte_self hm]
      intro i hi he
      have he' := congrArg BitVec.toNat ((BitVec.add_right_inj a).mp he)
      simp only [BitVec.toNat_ofNat] at he'
      rw [Nat.mod_eq_of_lt (by omega), Nat.mod_eq_of_lt (by omega)] at he'
      omega

/-- MemWrite(a, n, v) changes no byte outside a, …, a + n - 1. -/
theorem State.byte_memWrite_ne (s : State) (a : Word) (n : Nat) (v : BitVec (8 * n)) (x : Word)
    (h : ∀ j, j < n → x ≠ a + BitVec.ofNat 32 j) : (s.memWrite a n v).byte x = s.byte x :=
  State.byte_storeNat_ne _ _ _ _ _ _ h

/-- The bytes of MemWrite(a, n, v), the most significant at the lowest address. -/
theorem State.byte_memWrite {s : State} (hm : Memory.wf s.mem = true) (a : Word) (n : Nat) (v : BitVec (8 * n)) (j : Nat)
    (hj : j < n) (hn : n ≤ 2 ^ 32) :
    (s.memWrite a n v).byte (a + BitVec.ofNat 32 j) = BitVec.ofNat 8 (v.toNat / 256 ^ (n - 1 - j)) :=
  State.byte_storeNat hm _ _ _ _ _ hj hn

end Sys2Proof.Machine
end

