-- ==== Sys2Proof/Laws/Ops.lean ====
section
/-! SUPPORT. One lemma for each shared operation that says everything it can do. -/
namespace Sys2Proof.Machine

/-! ## The frame of an instruction -/

/-- With AltiVec available a vector instruction has its effect. -/
theorem vectorStep_vec {s : State} (h : s.vec = true) (t : State) : vectorStep s t = .next t.advance := by
  simp [vectorStep, h]

/-- With AltiVec disabled a vector instruction takes the AltiVec unavailable exception. -/
theorem vectorStep_unavailable {s : State} (h : s.vec = false) (t : State) : vectorStep s t = .next s.takeUnavailable := by
  simp [vectorStep, h]

/-- Everything `vectorStep` can do. -/
theorem vectorStep_cases {s t u : State} (h : vectorStep s t = .next u) :
    (s.vec = true ∧ u = t.advance) ∨ (s.vec = false ∧ u = s.takeUnavailable) := by
  unfold vectorStep at h
  split at h
  · next hv => exact .inl ⟨hv, (Host.Outcome.next.inj h).symm⟩
  · next hv => exact .inr ⟨by simpa using hv, (Host.Outcome.next.inj h).symm⟩

/-- No address is in a direct-store segment (20_memory.md R121, D9). -/
@[simp] theorem directStore_false (ea : Word) : directStore ea = false := rfl

/-- A vector access is a vector instruction: its DSI cannot arise. -/
theorem accessStep_eq_vectorStep (s : State) (ea : Word) (d t : State) : accessStep s ea d t = vectorStep s t := by
  simp [accessStep, vectorStep]

/-! ## Exceptions -/

/-- SRR1 after the AltiVec unavailable exception (60_exceptions.md R515). -/
@[simp] theorem State.takeUnavailable_srr1 (s : State) : s.takeUnavailable.srr1 = s.msr &&& savedMask := by
  simp [State.takeUnavailable]

/-- SRR0 after any entry (60_exceptions.md R516). -/
@[simp] theorem State.takeUnavailable_srr0 (s : State) : s.takeUnavailable.srr0 = s.pc := rfl

/-- MSR after the AltiVec unavailable exception (60_exceptions.md R514). -/
@[simp] theorem State.takeUnavailable_msr (s : State) : s.takeUnavailable.msr = entryMSR s.msr := rfl

/-- Where control goes (60_exceptions.md R513). -/
@[simp] theorem State.takeUnavailable_pc (s : State) : s.takeUnavailable.pc = s.vectorBase + vectorUnavailable := rfl

/-- Everything an entry keeps (60_exceptions.md R517). -/
theorem State.takeException_frame (s : State) (v c : Word) :
    RegistersKept s (s.takeException v c) ∧ (s.takeException v c).vr = s.vr ∧ (s.takeException v c).cr = s.cr ∧
      (s.takeException v c).vscr = s.vscr ∧ (s.takeException v c).streams = s.streams ∧ (s.takeException v c).mem = s.mem :=
  ⟨⟨rfl, rfl, rfl, rfl, rfl⟩, rfl, rfl, rfl, rfl, rfl⟩

/-! ## Element loads -/

/-- The element that an element load addresses is what memory holds at the modified address (20_memory.md R105, R109). -/
theorem State.elem_loadElement (s : State) {n : Nat} (hn : 8 * n ∣ 128) (h0 : 0 < 8 * n) (vD : VReg) (ea : Word)
    (hl : s.lane n ea < 128 / (8 * n)) :
    elem (8 * n) (s.lane n ea) ((s.loadElement n vD ea).readV vD) = s.memRead (s.munge n ea) n := by
  have h : (s.loadElement n vD ea).readV vD = setElem (8 * n) (s.lane n ea) (s.memRead (s.munge n ea) n) s.undefQuad :=
    State.readV_writeV_self s vD _
  rw [h, elem_setElem _ _ _ _ hn h0 hl]
  simp

/-! ## Writing a vector register -/

/-- Writing vD and going on changes nothing else. -/
theorem State.writeV_advance_wroteOnly (s : State) (vD : VReg) (q : Quad) : WroteOnly vD s (s.writeV vD q).advance :=
  ⟨⟨⟨rfl, rfl, rfl, rfl⟩, ⟨rfl, rfl, rfl, rfl, rfl⟩, fun _ h => State.readV_writeV_ne s q h, fun _ => rfl, rfl⟩, rfl, rfl⟩

/-- Writing vD with a result that may saturate changes nothing but vD and VSCR. -/
theorem State.writeSat_advance_wroteVector (s : State) (vD : VReg) (d : Quad × Bool) :
    WroteVector vD s (s.writeSat vD d).advance :=
  ⟨⟨by simp, by simp, by simp, by simp⟩, ⟨by simp, by simp, by simp, by simp, by simp⟩,
    fun _ h => State.readV_of_vr_set_ne (q := d.1) (by simp) h, fun _ => State.byte_congr (by simp) _, by simp⟩

/-- Writing the result of a compare changes nothing but vD and CR. -/
theorem State.writeCompare_advance_wroteVector (s : State) (vD : VReg) (rc : Bool) (d : Quad) :
    WroteVector vD s (s.writeCompare vD rc d).advance :=
  ⟨⟨by simp, by simp, by simp, by simp⟩, ⟨by simp, by simp, by simp, by simp, by simp⟩,
    fun _ h => State.readV_of_vr_set_ne (q := d) (by simp) h, fun _ => State.byte_congr (by simp) _, by simp⟩

/-- The same for the bounds compare. -/
theorem State.writeBounds_advance_wroteVector (s : State) (vD : VReg) (rc : Bool) (d : Quad) :
    WroteVector vD s (s.writeBounds vD rc d).advance :=
  ⟨⟨by simp, by simp, by simp, by simp⟩, ⟨by simp, by simp, by simp, by simp, by simp⟩,
    fun _ h => State.readV_of_vr_set_ne (q := d) (by simp) h, fun _ => State.byte_congr (by simp) _, by simp⟩

/-! ## Streams -/

/-- The slots after a touch (46_data_stream.md R492, R493). -/
theorem State.touch_streams (s : State) (kind : StreamKind) (tr : Bool) (k : StreamId) (rA rB : GReg) :
    (s.touch kind tr k rA rB).streams =
      if rA = 0 then s.streams else s.streams.set k.val (some (makeStream kind tr s.pr (s.readG rA) (s.readG rB))) k.isLt := by
  unfold State.touch
  split <;> rfl

/-- A slot after the prefetch engine has acted, whether or not any slot holds a stream. -/
theorem State.prefetch_get (s : State) (k : StreamId) : s.prefetch.streams.get k = s.slotAfterPrefetch k := by
  unfold State.prefetch
  split
  · next h =>
    have hk : s.streams.get k = none := by
      rw [h]
      change (Vector.replicate 4 (none : Option Stream))[k.val] = none
      simp
    simp [State.slotAfterPrefetch, hk]
  · change (Vector.ofFn s.slotAfterPrefetch)[k.val] = _
    simp

/-- A stream that is still there after the engine has acted was there before; if it is enabled it may have gone on, short of its last
unit, and if it is suspended it is as it was (46_data_stream.md R494, R500). -/
theorem State.slotAfterPrefetch_cases {s : State} {k : StreamId} {st' : Stream} (h : s.slotAfterPrefetch k = some st') :
    ∃ st, s.streams.get k = some st ∧
      ((s.streamEnabled k = true ∧ ∃ u, st.progress + u < st.count ∧ st' = { st with progress := st.progress + u }) ∨
        (s.streamEnabled k = false ∧ st' = st)) := by
  unfold State.slotAfterPrefetch at h
  split at h
  · cases h
  · next st hst =>
    refine ⟨st, hst, ?_⟩
    split at h
    · cases h
    · next u _ =>
      split at h
      · next he =>
        unfold Stream.prefetched at h
        split at h
        · next hu => exact .inl ⟨he, u, hu, (Option.some.inj h).symm⟩
        · cases h
      · next he => exact .inr ⟨by simpa using he, (Option.some.inj h).symm⟩

/-! ## Addresses -/

/-- The address modification is undone by itself. -/
theorem State.munge_munge (s : State) (n : Nat) (a : Word) : s.munge n (s.munge n a) = a := by
  unfold State.munge
  split
  · rw [BitVec.xor_assoc, BitVec.xor_self, BitVec.xor_zero]
  · rfl

end Sys2Proof.Machine
end

