-- ==== Sys2Proof/Laws/Results.lean ====
section
/-! SUPPORT. From the form of a meaning to what it gives: one lemma for each way an instruction writes its result. -/
namespace Sys2Proof.Machine

/-- A meaning that writes a vector built element by element gives these elements. -/
theorem Gives.of_build {i : Instr} {s : State} {vD : VReg} {n : Nat} {f : Nat → BitVec n} (hn : n ∣ 128) (h0 : 0 < n)
    (hv : s.vec = true) (he : exec i s = vectorStep s (s.writeV vD (build n f))) : Gives i s vD n f :=
  ⟨_, he.trans (vectorStep_vec hv _), fun k hk => by simp [elem_build n f k hn h0 hk], State.writeV_advance_wroteOnly s vD _⟩

/-- The elements may be given in another form. -/
theorem Gives.congr {i : Instr} {s : State} {vD : VReg} {n : Nat} {f g : Nat → BitVec n} (h : Gives i s vD n f)
    (hfg : ∀ k, k < 128 / n → f k = g k) : Gives i s vD n g := by
  obtain ⟨t, he, hk, hw⟩ := h
  exact ⟨t, he, fun k h => (hk k h).trans (hfg k h), hw⟩

/-- A meaning that writes a whole quad word gives it. -/
theorem Gives.of_quad {i : Instr} {s : State} {vD : VReg} {q : Quad} (n : Nat) (hv : s.vec = true)
    (he : exec i s = vectorStep s (s.writeV vD q)) : Gives i s vD n fun k => elem n k q :=
  ⟨_, he.trans (vectorStep_vec hv _), fun k _ => by simp, State.writeV_advance_wroteOnly s vD q⟩

/-! ## Saturation -/

/-- `satUnsigned` brings its argument into range and says whether that changed it (41_int_arith.md R223, R224). -/
theorem satUnsigned_eq (n : Nat) (x : Int) : satUnsigned n x = (BitVec.ofInt n (clampU n x), decide (clampU n x ≠ x)) := by
  have hp : (1 : Int) ≤ 2 ^ n := by exact_mod_cast Nat.one_le_two_pow
  unfold satUnsigned clampU
  split
  · next h =>
    have : max 0 (min ((2 : Int) ^ n - 1) x) = 2 ^ n - 1 := by omega
    rw [this]
    have hne : (2 : Int) ^ n - 1 ≠ x := by omega
    simp only [hne, ne_eq, not_false_eq_true, decide_true, Prod.mk.injEq, and_true]
    apply BitVec.eq_of_toNat_eq
    rw [BitVec.toNat_ofInt, BitVec.toNat_allOnes]
    push_cast
    rw [Int.emod_eq_of_lt (by omega) (by omega)]
    have : ((2 ^ n : Nat) : Int) = 2 ^ n := by push_cast; rfl
    omega
  · split
    · have h0 : max 0 (min ((2 : Int) ^ n - 1) x) = 0 := by omega
      have hne : (0 : Int) ≠ x := by omega
      simp [h0, hne]
    · have h0 : max 0 (min ((2 : Int) ^ n - 1) x) = x := by omega
      simp [h0]

/-- `satSigned` brings its argument into range and says whether that changed it (41_int_arith.md R225). -/
theorem satSigned_eq (n : Nat) (x : Int) : satSigned n x = (BitVec.ofInt n (clampS n x), decide (clampS n x ≠ x)) := by
  have hp : (1 : Int) ≤ 2 ^ (n - 1) := by exact_mod_cast Nat.one_le_two_pow
  unfold satSigned clampS
  generalize (2 : Int) ^ (n - 1) = p at hp
  split
  · have h0 : max (-p) (min (p - 1) x) = p - 1 := by omega
    have hne : p - 1 ≠ x := by omega
    simp [h0, hne]
  · split
    · have h0 : max (-p) (min (p - 1) x) = -p := by omega
      have hne : -p ≠ x := by omega
      simp [h0, hne]
    · have h0 : max (-p) (min (p - 1) x) = x := by omega
      simp [h0]

/-- The bits of VSCR after an instruction that may saturate (10_state.md R46). -/
theorem wordBit_or_satMask (v : Word) (b : Nat) (hb : b < 32) : wordBit (v ||| satMask) b = (wordBit v b || b == 31) := by
  interval_cases b <;> simp [wordBit, satMask]

theorem wordBit_or_njMask (v : Word) (b : Nat) (hb : b < 32) : wordBit (v ||| njMask) b = (wordBit v b || b == 15) := by
  interval_cases b <;> simp [wordBit, njMask]

theorem State.wordBit_vscrValue (s : State) (b : Nat) (hb : b < 32) :
    wordBit s.vscrValue b = (wordBit s.vscr b || (!Config.javaImplemented && b == 15)) := by
  unfold State.vscrValue
  split
  · next h => simp [h]
  · next h => simp [h, wordBit_or_njMask _ _ hb]

/-- SAT is a stored bit, whatever the implementation has. -/
theorem State.sat_eq (s : State) : s.sat = wordBit s.vscr 31 := by
  rw [State.sat, State.wordBit_vscrValue s 31 (by decide)]
  simp

/-- A meaning that writes a vector of converted elements gives the elements, each brought into range. -/
theorem GivesClamped.of_buildSat {i : Instr} {s : State} {vD : VReg} {n : Nat} {g : Nat → BitVec n × Bool} {clamp x : Nat → Int}
    (hn : n ∣ 128) (h0 : 0 < n) (hv : s.vec = true) (he : exec i s = vectorStep s (s.writeSat vD (buildSat n g)))
    (hg : ∀ k, k < 128 / n → g k = (BitVec.ofInt n (clamp k), decide (clamp k ≠ x k))) : GivesClamped i s vD n clamp x := by
  have hany : (buildSat n g).2 = true ↔ ∃ k, k < 128 / n ∧ clamp k ≠ x k := by
    simp only [buildSat, anyBelow_iff]
    exact exists_congr fun k => and_congr_right fun hk => by simp [hg k hk]
  refine ⟨_, he.trans (vectorStep_vec hv _), fun k hk => ?_, ?_, fun b hb => ?_, State.writeSat_advance_wroteVector s vD _, by simp⟩
  · rw [State.readV_advance, State.readV_of_vr_set (State.writeSat_vr s vD _)]
    simp only [buildSat]
    rw [elem_build n _ k hn h0 hk, hg k hk]
  · rw [State.sat_eq, State.sat_eq, State.advance_vscr, State.writeSat_vscr, ← hany]
    cases (buildSat n g).2 <;> simp [wordBit_or_satMask]
  · rw [State.wordBit_vscrValue _ b (by omega), State.wordBit_vscrValue _ b (by omega), State.advance_vscr, State.writeSat_vscr]
    have : (b == 31) = false := by simp; omega
    cases (buildSat n g).2 <;> simp [wordBit_or_satMask, show b < 32 by omega, this]

/-- The same with unsigned saturation of the exact value. -/
theorem GivesUnsigned.of_buildSat {i : Instr} {s : State} {vD : VReg} {n : Nat} {x : Nat → Int} (hn : n ∣ 128) (h0 : 0 < n)
    (hv : s.vec = true) (he : exec i s = vectorStep s (s.writeSat vD (buildSat n fun k => satUnsigned n (x k)))) :
    GivesUnsigned i s vD n x :=
  GivesClamped.of_buildSat hn h0 hv he fun k _ => satUnsigned_eq n (x k)

/-- The same with signed saturation of the exact value. -/
theorem GivesSigned.of_buildSat {i : Instr} {s : State} {vD : VReg} {n : Nat} {x : Nat → Int} (hn : n ∣ 128) (h0 : 0 < n)
    (hv : s.vec = true) (he : exec i s = vectorStep s (s.writeSat vD (buildSat n fun k => satSigned n (x k)))) :
    GivesSigned i s vD n x :=
  GivesClamped.of_buildSat hn h0 hv he fun k _ => satSigned_eq n (x k)

/-! ## Compares -/

/-- The bits of CR after CR field 6 has been written. -/
theorem wordBit_writeCR6 (c : Word) (f : BitVec 4) (b : Nat) (hb : b < 32) :
    wordBit ((c &&& ~~~cr6Mask) ||| (f.setWidth 32 <<< 4)) b = if 24 ≤ b ∧ b ≤ 27 then f.getLsbD (27 - b) else wordBit c b := by
  interval_cases b <;> simp [wordBit, cr6Mask]

theorem elem_allOnes (n k : Nat) (hk : k < 128 / n) :
    elem n k (BitVec.allOnes 128) = BitVec.allOnes n := by
  have hlt : n * (k + 1) ≤ 128 := (Nat.mul_le_mul_left n hk).trans (Nat.mul_div_le 128 n)
  apply BitVec.eq_of_getLsbD_eq
  intro i hi
  have : 128 - n * (k + 1) + i < 128 := by
    have : n * (k + 1) = n * k + n := Nat.mul_succ n k
    omega
  simp only [elem, BitVec.getLsbD_extractLsb', hi, decide_true, Bool.true_and, BitVec.getLsbD_allOnes, this]

theorem elem_zero (n k : Nat) : elem n k 0 = 0 := by
  apply BitVec.eq_of_getLsbD_eq
  intro i hi
  simp [elem]

theorem allOnes_ne_zero {n : Nat} (h0 : 0 < n) : BitVec.allOnes n ≠ 0 := by
  intro h
  have := congrArg (fun x => x.getLsbD 0) h
  simp [h0] at this

/-- The four bits a compare puts into CR field 6 (10_state.md R56). -/
theorem compareCR6_bits (d : Quad) : ((compareCR6 d).getLsbD 3 = true ↔ d = BitVec.allOnes 128) ∧ (compareCR6 d).getLsbD 2 = false ∧
    ((compareCR6 d).getLsbD 1 = true ↔ d = 0) ∧ (compareCR6 d).getLsbD 0 = false := by
  have hone : BitVec.allOnes 128 ≠ (0 : Quad) := allOnes_ne_zero (by decide)
  rw [compareCR6]
  by_cases h1 : d = BitVec.allOnes 128
  · rw [if_pos h1]
    exact ⟨⟨fun _ => h1, fun _ => by decide⟩, by decide, ⟨fun h => absurd h (by decide), fun h => absurd (h1.symm.trans h) hone⟩, by decide⟩
  · rw [if_neg h1]
    by_cases h2 : d = 0
    · rw [if_pos h2]
      exact ⟨⟨fun h => absurd h (by decide), fun h => absurd h h1⟩, by decide, ⟨fun _ => h2, fun _ => by decide⟩, by decide⟩
    · rw [if_neg h2]
      exact ⟨⟨fun h => absurd h (by decide), fun h => absurd h h1⟩, by decide, ⟨fun h => absurd h (by decide), fun h => absurd h h2⟩, by decide⟩

/-- A meaning that writes a vector of true and false elements gives the compare. -/
theorem GivesCompare.of_truth {i : Instr} {s : State} {vD : VReg} {rc : Bool} {n : Nat} {p : Nat → Bool} {P : Nat → Prop}
    (hn : n ∣ 128) (h0 : 0 < n) (hv : s.vec = true)
    (he : exec i s = vectorStep s (s.writeCompare vD rc (build n fun k => truth n (p k))))
    (hp : ∀ k, k < 128 / n → (p k = true ↔ P k)) : GivesCompare i s vD rc n P := by
  have hel : ∀ k, k < 128 / n → elem n k (build n fun k => truth n (p k)) = truth n (p k) := fun k hk => elem_build n _ k hn h0 hk
  have hall : (build n fun k => truth n (p k)) = BitVec.allOnes 128 ↔ ∀ k, k < 128 / n → P k := by
    constructor
    · intro h k hk
      rw [← hp k hk]
      have := hel k hk
      rw [h, elem_allOnes n k hk] at this
      by_contra hc
      simp only [truth, hc, if_false] at this
      exact allOnes_ne_zero h0 this
    · intro h
      refine eq_of_elem_eq n hn h0 _ _ fun k hk => ?_
      rw [hel k hk, elem_allOnes n k hk]
      simp [truth, (hp k hk).2 (h k hk)]
  have hnone : (build n fun k => truth n (p k)) = 0 ↔ ∀ k, k < 128 / n → ¬ P k := by
    constructor
    · intro h k hk hP
      have := hel k hk
      rw [h, elem_zero] at this
      simp only [truth, (hp k hk).2 hP, if_true] at this
      exact allOnes_ne_zero h0 this.symm
    · intro h
      refine eq_of_elem_eq n hn h0 _ _ fun k hk => ?_
      rw [hel k hk, elem_zero]
      have : p k = false := by
        have := h k hk
        rw [← hp k hk] at this
        simpa using this
      simp [truth, this]
  generalize hD : (build n fun k => truth n (p k)) = D at he hel hall hnone
  refine ⟨_, he.trans (vectorStep_vec hv _), fun k hk => ?_, fun h => by simp [h], fun h => ?_,
    State.writeCompare_advance_wroteVector s vD rc D, by simp⟩
  · rw [State.readV_advance, State.readV_of_vr_set (State.writeCompare_vr s vD rc D), hel k hk]
    constructor
    · intro hP; simp [truth, (hp k hk).2 hP]
    · intro hP
      have : p k = false := by rw [← hp k hk] at hP; simpa using hP
      simp [truth, this]
  · subst h
    rw [State.advance_cr, State.writeCompare_cr, ← hall, ← hnone]
    simp only [if_true]
    obtain ⟨h3, h2, h1, h0⟩ := compareCR6_bits D
    refine ⟨fun b hb h => ?_, ?_, ?_, ?_, ?_⟩
    · rw [wordBit_writeCR6 _ _ _ hb, if_neg (by omega)]
    all_goals rw [wordBit_writeCR6 _ _ _ (by decide), if_pos (by decide)]
    · exact h3
    · exact h2
    · exact h1
    · exact h0

end Sys2Proof.Machine
end

