-- ==== Sys2Proof/Laws/Run.lean ====
section
/-! SUPPORT. What a run is made of, and what holds of the state in which it ends. -/
namespace Sys2Proof.Machine

/-- At P_STOP_PC the run ends normally, before a fetch (70_reset_and_hazards.md R580, R582). -/
@[simp] theorem State.stepOrEnd_at_stop (s : State) : s.stepOrEnd s.pc = none := if_pos rfl

/-- Elsewhere a step is taken. -/
theorem State.stepOrEnd_of_ne {s : State} {stop : Word} (h : s.pc ≠ stop) : s.stepOrEnd stop = some (step s) := if_neg h

/-- A run that stands at P_STOP_PC ends normally whatever its bound is. -/
@[simp] theorem State.run_at_stop (s : State) (n : Nat) : s.run s.pc n = .normal s := by
  cases n <;> simp [State.run]

/-- A run without steps that stands elsewhere ends at its bound. -/
theorem State.run_zero {s : State} {stop : Word} (h : s.pc ≠ stop) : s.run stop 0 = .bound s := if_neg h

/-- A run whose first step answers a next state goes on from there. -/
theorem State.run_next {s t : State} {stop : Word} (h : s.pc ≠ stop) (ht : step s = .next t) (n : Nat) :
    s.run stop (n + 1) = t.run stop n := by
  simp [State.run, State.stepOrEnd_of_ne h, ht]

/-- A run whose first step is refused ends there. -/
theorem State.run_refused {s : State} {r : Refusal} {stop : Word} (h : s.pc ≠ stop) (hr : step s = .refused r) (n : Nat) :
    s.run stop (n + 1) = .refused r s := by
  simp [State.run, State.stepOrEnd_of_ne h, hr]

/-- Everything a run can do: it ends normally at P_STOP_PC, at its bound, or with its first step, or it takes that step. -/
theorem State.run_cases (s : State) (stop : Word) (n : Nat) :
    (s.pc = stop ∧ s.run stop n = .normal s) ∨
    (s.pc ≠ stop ∧ n = 0 ∧ s.run stop n = .bound s) ∨
    (s.pc ≠ stop ∧ ∃ k, n = k + 1 ∧
      ((∃ t, step s = .next t ∧ s.run stop n = t.run stop k) ∨ (∃ f, step s = .fault f ∧ s.run stop n = .fault f s) ∨
        (∃ r, step s = .refused r ∧ s.run stop n = .refused r s))) := by
  by_cases h : s.pc = stop
  · exact .inl ⟨h, h ▸ s.run_at_stop n⟩
  cases n with
  | zero => exact .inr (.inl ⟨h, rfl, State.run_zero h⟩)
  | succ k =>
    refine .inr (.inr ⟨h, k, rfl, ?_⟩)
    cases hs : step s with
    | next t => exact .inl ⟨t, rfl, State.run_next h hs k⟩
    | fault f => exact .inr (.inl ⟨f, rfl, by simp [State.run, State.stepOrEnd_of_ne h, hs]⟩)
    | refused r => exact .inr (.inr ⟨r, rfl, State.run_refused h hs k⟩)

/-- What every step keeps, every run keeps. -/
theorem State.run_keeps {P : State → Prop} (hstep : ∀ s t, P s → step s = .next t → P t) (stop : Word) (n : Nat) (s : State)
    (hs : P s) : P (s.run stop n).state := by
  induction n generalizing s with
  | zero =>
    rcases s.run_cases stop 0 with ⟨-, h⟩ | ⟨-, -, h⟩ | ⟨-, k, h, -⟩
    · rwa [h]
    · rwa [h]
    · cases h
  | succ n ih =>
    rcases s.run_cases stop (n + 1) with ⟨-, h⟩ | ⟨-, h, -⟩ | ⟨-, k, hk, ⟨t, ht, h⟩ | ⟨f, -, h⟩ | ⟨r, -, h⟩⟩
    · rwa [h]
    · cases h
    · cases hk
      rw [h]
      exact ih t (hstep s t hs ht)
    · rwa [h]
    · rwa [h]

/-- A run that ends normally ends with pc at P_STOP_PC. -/
theorem State.run_normal_pc {s t : State} {stop : Word} {n : Nat} (h : s.run stop n = .normal t) : t.pc = stop := by
  induction n generalizing s with
  | zero =>
    rcases s.run_cases stop 0 with ⟨hp, hr⟩ | ⟨-, -, hr⟩ | ⟨-, k, hk, -⟩
    · cases hr.symm.trans h
      exact hp
    · cases hr.symm.trans h
    · cases hk
  | succ n ih =>
    rcases s.run_cases stop (n + 1) with ⟨hp, hr⟩ | ⟨-, hk, -⟩ | ⟨-, k, hk, ⟨u, -, hr⟩ | ⟨f, -, hr⟩ | ⟨r, -, hr⟩⟩
    · cases hr.symm.trans h
      exact hp
    · cases hk
    · cases hk
      exact ih (hr.symm.trans h)
    · cases hr.symm.trans h
    · cases hr.symm.trans h

/-- A run that has met its bound is continued by a run from there. -/
theorem State.run_add {s t : State} {stop : Word} {m : Nat} (h : s.run stop m = .bound t) (n : Nat) :
    s.run stop (m + n) = t.run stop n := by
  induction m generalizing s with
  | zero =>
    rcases s.run_cases stop 0 with ⟨-, hr⟩ | ⟨-, -, hr⟩ | ⟨-, k, hk, -⟩
    · cases hr.symm.trans h
    · cases hr.symm.trans h
      rw [Nat.zero_add]
    · cases hk
  | succ m ih =>
    rcases s.run_cases stop (m + 1) with ⟨-, hr⟩ | ⟨-, hk, -⟩ | ⟨hp, k, hk, ⟨u, hu, hr⟩ | ⟨f, -, hr⟩ | ⟨r, -, hr⟩⟩
    · cases hr.symm.trans h
    · cases hk
    · cases hk
      rw [Nat.succ_add, State.run_next hp hu]
      exact ih (hr.symm.trans h)
    · cases hr.symm.trans h
    · cases hr.symm.trans h

end Sys2Proof.Machine
end

