-- ==== Sys2Proof/Laws/Step.lean ====
section
/-! SUPPORT. What the end of a step does, and what a step is made of. -/
namespace Sys2Proof.Machine

/-- After an instruction that has completed or taken an exception the prefetch engine acts (46_data_stream.md R494). -/
@[simp] theorem afterStep_next (t : State) : afterStep (.next t) = .next t.prefetch := rfl

/-- A refusal stays what it is. -/
@[simp] theorem afterStep_refused (r : Refusal) : afterStep (.refused r) = .refused r := rfl

/-- Everything a step that answers a next state can do: the effect of the decoded word, and then the prefetch engine. -/
theorem step_cases {s u : State} (h : step s = .next u) :
    ∃ t, execDecoded (decodeWord s.fetchWord) s = .next t ∧ u = t.prefetch := by
  unfold step at h
  generalize execDecoded (decodeWord s.fetchWord) s = o at h
  cases o with
  | next t => exact ⟨t, rfl, (Host.Outcome.next.inj h).symm⟩
  | fault f => cases h
  | refused r => cases h

/-- A step whose word has an effect is that effect, followed by the prefetch engine. -/
theorem step_of_execDecoded {s t : State} (h : execDecoded (decodeWord s.fetchWord) s = .next t) : step s = .next t.prefetch := by
  rw [step, h, afterStep_next]

end Sys2Proof.Machine
end

