-- ==== Sys2Proof/Tests/Slice0.lean ====
section
/-! SUPPORT. Tests on small states. Words are written out from the encodings of 30_encoding.md R153 to R156 and R165; expected
results are the spec's own: the examples of the instruction rules and the vectors of 95_test_vectors.md and
96_test_vectors_arith.md. -/
namespace Sys2Proof.Tests
open Sys2Proof Sys2Proof.Machine
set_option Elab.async false

/-! ## WellFormed: the one check, and what it lets pass (46_data_stream.md R493) -/

theorem test_wf_refuses_dst_rA0 : (Instr.dst 0 0 4).wf = false := by decide
theorem test_wf_refuses_dstt_rA0 : (Instr.dstt 1 0 4).wf = false := by decide
theorem test_wf_refuses_dstst_rA0 : (Instr.dstst 2 0 4).wf = false := by decide
theorem test_wf_refuses_dststt_rA0 : (Instr.dststt 3 0 4).wf = false := by decide
theorem test_wf_accepts_dst : (Instr.dst 0 3 0).wf = true := by decide
theorem test_wf_accepts_lvx_rA0 : (Instr.lvx 1 0 3).wf = true := by decide

/-! ## Decoding: one word for every row of the table, its fields vD or vS 4, vA 1, vB 2, vC 3, rA 5, rB 6, UIMM 19, SIMM -3, SHB 9,
STRM 2, Rc 1 -/

/-- Every word of the list decodes to the instruction beside it, and the encoder writes the word back. -/
def decodesTo (l : List (Nat × Instr)) : Bool :=
  l.all fun p => decodeNat p.1 == .instr p.2 && encodeNat p.2 == p.1 && decodeTableWord 32 p.1 == some p.2

theorem test_decode_loads_and_stores_1 : decodesTo
    [ (0x7C85300C, .lvsl 4 5 6), (0x7C85300E, .lvebx 4 5 6), (0x7C85304C, .lvsr 4 5 6),
      (0x7C85304E, .lvehx 4 5 6), (0x7C85308E, .lvewx 4 5 6), (0x7C8530CE, .lvx 4 5 6),
      (0x7C85310E, .stvebx 4 5 6), (0x7C85314E, .stvehx 4 5 6), (0x7C85318E, .stvewx 4 5 6),
      (0x7C8531CE, .stvx 4 5 6), (0x7C8532CE, .lvxl 4 5 6), (0x7C8533CE, .stvxl 4 5 6) ] = true := by
  decide +kernel

theorem test_decode_integer_arithmetic_1 : decodesTo
    [ (0x108110E0, .vmhaddshs 4 1 2 3), (0x108110E1, .vmhraddshs 4 1 2 3), (0x108110E2, .vmladduhm 4 1 2 3),
      (0x108110E4, .vmsumubm 4 1 2 3), (0x108110E5, .vmsummbm 4 1 2 3), (0x108110E6, .vmsumuhm 4 1 2 3),
      (0x108110E7, .vmsumuhs 4 1 2 3), (0x108110E8, .vmsumshm 4 1 2 3), (0x108110E9, .vmsumshs 4 1 2 3),
      (0x10811000, .vaddubm 4 1 2), (0x10811002, .vmaxub 4 1 2), (0x10811008, .vmuloub 4 1 2),
      (0x10811040, .vadduhm 4 1 2), (0x10811042, .vmaxuh 4 1 2), (0x10811048, .vmulouh 4 1 2),
      (0x10811080, .vadduwm 4 1 2), (0x10811082, .vmaxuw 4 1 2), (0x10811102, .vmaxsb 4 1 2),
      (0x10811108, .vmulosb 4 1 2), (0x10811142, .vmaxsh 4 1 2) ] = true := by
  decide +kernel

theorem test_decode_integer_arithmetic_2 : decodesTo
    [ (0x10811148, .vmulosh 4 1 2), (0x10811180, .vaddcuw 4 1 2), (0x10811182, .vmaxsw 4 1 2),
      (0x10811200, .vaddubs 4 1 2), (0x10811202, .vminub 4 1 2), (0x10811208, .vmuleub 4 1 2),
      (0x10811240, .vadduhs 4 1 2), (0x10811242, .vminuh 4 1 2), (0x10811248, .vmuleuh 4 1 2),
      (0x10811280, .vadduws 4 1 2), (0x10811282, .vminuw 4 1 2), (0x10811300, .vaddsbs 4 1 2),
      (0x10811302, .vminsb 4 1 2), (0x10811308, .vmulesb 4 1 2), (0x10811340, .vaddshs 4 1 2),
      (0x10811342, .vminsh 4 1 2), (0x10811348, .vmulesh 4 1 2), (0x10811380, .vaddsws 4 1 2),
      (0x10811382, .vminsw 4 1 2), (0x10811400, .vsububm 4 1 2) ] = true := by
  decide +kernel

theorem test_decode_integer_arithmetic_3 : decodesTo
    [ (0x10811402, .vavgub 4 1 2), (0x10811440, .vsubuhm 4 1 2), (0x10811442, .vavguh 4 1 2),
      (0x10811480, .vsubuwm 4 1 2), (0x10811482, .vavguw 4 1 2), (0x10811502, .vavgsb 4 1 2),
      (0x10811542, .vavgsh 4 1 2), (0x10811580, .vsubcuw 4 1 2), (0x10811582, .vavgsw 4 1 2),
      (0x10811600, .vsububs 4 1 2), (0x10811608, .vsum4ubs 4 1 2), (0x10811640, .vsubuhs 4 1 2),
      (0x10811648, .vsum4shs 4 1 2), (0x10811680, .vsubuws 4 1 2), (0x10811688, .vsum2sws 4 1 2),
      (0x10811700, .vsubsbs 4 1 2), (0x10811708, .vsum4sbs 4 1 2), (0x10811740, .vsubshs 4 1 2),
      (0x10811780, .vsubsws 4 1 2), (0x10811788, .vsumsws 4 1 2) ] = true := by
  decide +kernel

theorem test_decode_compares_logical_shifts_1 : decodesTo
    [ (0x10811004, .vrlb 4 1 2), (0x10811044, .vrlh 4 1 2), (0x10811084, .vrlw 4 1 2),
      (0x10811104, .vslb 4 1 2), (0x10811144, .vslh 4 1 2), (0x10811184, .vslw 4 1 2),
      (0x10811204, .vsrb 4 1 2), (0x10811244, .vsrh 4 1 2), (0x10811284, .vsrw 4 1 2),
      (0x10811304, .vsrab 4 1 2), (0x10811344, .vsrah 4 1 2), (0x10811384, .vsraw 4 1 2),
      (0x10811404, .vand 4 1 2), (0x10811444, .vandc 4 1 2), (0x10811484, .vor 4 1 2),
      (0x108114C4, .vxor 4 1 2), (0x10811504, .vnor 4 1 2), (0x10811406, .vcmpequb 4 1 2 true),
      (0x10811446, .vcmpequh 4 1 2 true), (0x10811486, .vcmpequw 4 1 2 true) ] = true := by
  decide +kernel

theorem test_decode_compares_logical_shifts_2 : decodesTo
    [ (0x10811606, .vcmpgtub 4 1 2 true), (0x10811646, .vcmpgtuh 4 1 2 true), (0x10811686, .vcmpgtuw 4 1 2 true),
      (0x10811706, .vcmpgtsb 4 1 2 true), (0x10811746, .vcmpgtsh 4 1 2 true), (0x10811786, .vcmpgtsw 4 1 2 true) ] = true := by
  decide +kernel

theorem test_decode_float_1 : decodesTo
    [ (0x108110EE, .vmaddfp 4 1 2 3), (0x108110EF, .vnmsubfp 4 1 2 3) ] = true := by
  decide +kernel

theorem test_decode_float_2 : decodesTo
    [ (0x1081100A, .vaddfp 4 1 2), (0x1081104A, .vsubfp 4 1 2), (0x1080110A, .vrefp 4 2),
      (0x1080114A, .vrsqrtefp 4 2), (0x1080118A, .vexptefp 4 2), (0x108011CA, .vlogefp 4 2),
      (0x1080120A, .vrfin 4 2), (0x1080124A, .vrfiz 4 2), (0x1080128A, .vrfip 4 2),
      (0x108012CA, .vrfim 4 2), (0x1093130A, .vcfux 4 19 2), (0x1093134A, .vcfsx 4 19 2),
      (0x1093138A, .vctuxs 4 19 2), (0x109313CA, .vctsxs 4 19 2), (0x1081140A, .vmaxfp 4 1 2),
      (0x1081144A, .vminfp 4 1 2) ] = true := by
  decide +kernel

theorem test_decode_float_3 : decodesTo
    [ (0x108114C6, .vcmpeqfp 4 1 2 true), (0x108115C6, .vcmpgefp 4 1 2 true), (0x108116C6, .vcmpgtfp 4 1 2 true),
      (0x108117C6, .vcmpbfp 4 1 2 true) ] = true := by
  decide +kernel

theorem test_decode_permute_1 : decodesTo
    [ (0x108110EA, .vsel 4 1 2 3), (0x108110EB, .vperm 4 1 2 3), (0x1081126C, .vsldoi 4 1 2 9) ] = true := by
  decide +kernel

theorem test_decode_permute_2 : decodesTo
    [ (0x1081100C, .vmrghb 4 1 2), (0x1081100E, .vpkuhum 4 1 2), (0x1081104C, .vmrghh 4 1 2),
      (0x1081104E, .vpkuwum 4 1 2), (0x1081108C, .vmrghw 4 1 2), (0x1081108E, .vpkuhus 4 1 2),
      (0x108110CE, .vpkuwus 4 1 2), (0x1081110C, .vmrglb 4 1 2), (0x1081110E, .vpkshus 4 1 2),
      (0x1081114C, .vmrglh 4 1 2), (0x1081114E, .vpkswus 4 1 2), (0x1081118C, .vmrglw 4 1 2),
      (0x1081118E, .vpkshss 4 1 2), (0x108111C4, .vsl 4 1 2), (0x108111CE, .vpkswss 4 1 2),
      (0x1093120C, .vspltb 4 19 2), (0x1080120E, .vupkhsb 4 2), (0x1093124C, .vsplth 4 19 2),
      (0x1080124E, .vupkhsh 4 2), (0x1093128C, .vspltw 4 19 2) ] = true := by
  decide +kernel

theorem test_decode_permute_3 : decodesTo
    [ (0x1080128E, .vupklsb 4 2), (0x108112C4, .vsr 4 1 2), (0x108012CE, .vupklsh 4 2),
      (0x109D030C, .vspltisb 4 29), (0x1081130E, .vpkpx 4 1 2), (0x109D034C, .vspltish 4 29),
      (0x1080134E, .vupkhpx 4 2), (0x109D038C, .vspltisw 4 29), (0x108013CE, .vupklpx 4 2),
      (0x1081140C, .vslo 4 1 2), (0x1081144C, .vsro 4 1 2) ] = true := by
  decide +kernel

theorem test_decode_vscr_1 : decodesTo
    [ (0x10800604, .mfvscr 4), (0x10001644, .mtvscr 2) ] = true := by
  decide +kernel

theorem test_decode_streams_1 : decodesTo
    [ (0x7C4532AC, .dst 2 5 6), (0x7E4532AC, .dstt 2 5 6), (0x7C4532EC, .dstst 2 5 6),
      (0x7E4532EC, .dststt 2 5 6), (0x7C40066C, .dss 2), (0x7E00066C, .dssall) ] = true := by
  decide +kernel

/-- The example words of 30_encoding.md R165. -/
theorem test_decode_spec_examples : decodesTo
    [ (0x10611000, .vaddubm 3 1 2), (0x10611300, .vaddsbs 3 1 2), (0x10011406, .vcmpequb 0 1 2 true), (0x108110EB, .vperm 4 1 2 3),
      (0x108110EC, .vsldoi 4 1 2 3), (0x101F030C, .vspltisb 0 31), (0x10A2328C, .vspltw 5 2 6), (0x10E00604, .mfvscr 7),
      (0x10003E44, .mtvscr 7), (0x7C2018CE, .lvx 1 0 3), (0x7C2429CE, .stvx 1 4 5), (0x7C0322AC, .dst 0 3 4), (0x7E4322AC, .dstt 2 3 4),
      (0x7C2532EC, .dstst 1 5 6), (0x7E6532EC, .dststt 3 5 6), (0x7E00066C, .dssall), (0x7C20066C, .dss 1) ] = true := by
  decide +kernel

/-- dssall ignores the STRM field (46_data_stream.md R507). -/
theorem test_decode_dssall_ignores_strm :
    [0x7E20066C, 0x7E40066C, 0x7E60066C].all (fun w => decodeNat w == .instr .dssall) = true := by decide

theorem test_decode_base : decodeNat 0x7C6042A6 = .base (.mfsprVrsave 3) ∧ decodeNat 0x7C8043A6 = .base (.mtsprVrsave 4) ∧
    decodeNat 0x4C000064 = .base .rfi ∧ encodeBase (.mfsprVrsave 3) = 0x7C6042A6 ∧ encodeBase (.mtsprVrsave 4) = 0x7C8043A6 := by
  decide

/-- 95_test_vectors.md 2.1: illegal words. -/
theorem test_decode_illegal : [0x10000001, 0x1000003F, 0x10000030].all (fun w => decodeNat w == .illegal) = true := by decide

/-- 95_test_vectors.md 2.1: reserved fields that are not zero. -/
theorem test_decode_reserved :
    [0x1081156C, 0x109F1B8C, 0x1081110A, 0x10201644].all (fun w => decodeNat w == .rejected .reservedField) = true := by decide

/-- 95_test_vectors.md 2.1: words outside the spec. -/
theorem test_decode_outside :
    [0x7C8328CF, 0x7C6802A6, 0x38600001, 0].all (fun w => decodeNat w == .rejected .outsideSpec) = true := by decide

theorem test_decode_too_short : decode [0x10, 0x61, 0x10] = .rejected .tooShort := by decide

/-! ## The instructions, one vector each: vA = VR1, vB = VR2, vC = VR3, vD = VR4 -/

/-- A state with AltiVec available, CR 0x12345678 and three registers filled. -/
def ready (a b c : Quad) : State :=
  ((({ State.reset with msr := 0x02000000, pc := 0x1000, cr := 0x12345678 } : State).writeV 1 a).writeV 2 b).writeV 3 c

/-- One step of `i` from `ready a b c` gives VR4 = d and SAT = sat, at pc + 4. -/
def gives (i : Instr) (a b c d : Quad) (sat : Bool) : Bool :=
  match exec i (ready a b c) with
  | .next t => t.readV 4 == d && wordBit t.vscr 31 == sat && t.pc == 0x1004 && t.cr == 0x12345678
  | _ => false

/-- The same for a compare: VR4 = d and CR afterwards. -/
def givesCR (i : Instr) (a b d : Quad) (cr : Word) : Bool :=
  match exec i (ready a b 0) with
  | .next t => t.readV 4 == d && t.cr == cr
  | _ => false

theorem test_vaddcuw : gives (.vaddcuw 4 1 2) 0x007F80FF01FE10F07FFF8000FFFFFFFF 0x01018001FF0270900001800000000001 0
      0x00000000000000010000000000000001 false = true := by
  decide +kernel
theorem test_vaddubm : gives (.vaddubm 4 1 2) 0x007F80FF01FE10F07FFF8000FFFFFFFF 0x01018001FF0270900001800000000001 0
      0x01800000000080807F000000FFFFFF00 false = true := by
  decide +kernel
theorem test_vadduhm : gives (.vadduhm 4 1 2) 0x007F80FF01FE10F07FFF8000FFFFFFFF 0x01018001FF0270900001800000000001 0
      0x018001000100818080000000FFFF0000 false = true := by
  decide +kernel
theorem test_vadduwm : gives (.vadduwm 4 1 2) 0x7FFFFFFF80000000FFFFFFFF00000000 0x00000001FFFFFFFFFFFFFFFF00000000 0
      0x800000007FFFFFFFFFFFFFFE00000000 false = true := by
  decide +kernel
theorem test_vaddubs : gives (.vaddubs 4 1 2) 0x007F80FF01FE10F07FFF8000FFFFFFFF 0x01018001FF0270900001800000000001 0
      0x0180FFFFFFFF80FF7FFFFF00FFFFFFFF true = true := by
  decide +kernel
theorem test_vadduhs : gives (.vadduhs 4 1 2) 0x007F80FF01FE10F07FFF8000FFFFFFFF 0x01018001FF0270900001800000000001 0
      0x0180FFFFFFFF81808000FFFFFFFFFFFF true = true := by
  decide +kernel
theorem test_vadduws : gives (.vadduws 4 1 2) 0x007F80FF01FE10F07FFF8000FFFFFFFF 0x01018001FF0270900001800000000001 0
      0x01810100FFFFFFFF80010000FFFFFFFF true = true := by
  decide +kernel
theorem test_vaddsbs : gives (.vaddsbs 4 1 2) 0x007F80FF01FE10F07FFF8000FFFFFFFF 0x01018001FF0270900001800000000001 0
      0x017F800000007F807F008000FFFFFF00 true = true := by
  decide +kernel
theorem test_vaddshs : gives (.vaddshs 4 1 2) 0x007F80FF01FE10F07FFF8000FFFFFFFF 0x01018001FF0270900001800000000001 0
      0x0180800001007FFF7FFF8000FFFF0000 true = true := by
  decide +kernel
theorem test_vaddsws : gives (.vaddsws 4 1 2) 0x007F80FF01FE10F07FFF8000FFFFFFFF 0x01018001FF0270900001800000000001 0
      0x01810100010081807FFFFFFF00000000 true = true := by
  decide +kernel
theorem test_vsubcuw : gives (.vsubcuw 4 1 2) 0x007F80FF01FE10F07FFF8000FFFFFFFF 0x01018001FF0270900001800000000001 0
      0x00000000000000000000000100000001 false = true := by
  decide +kernel
theorem test_vsububm : gives (.vsububm 4 1 2) 0x007F80FF01FE10F07FFF8000FFFFFFFF 0x01018001FF0270900001800000000001 0
      0xFF7E00FE02FCA0607FFE0000FFFFFFFE false = true := by
  decide +kernel
theorem test_vsubuhm : gives (.vsubuhm 4 1 2) 0x007F80FF01FE10F07FFF8000FFFFFFFF 0x01018001FF0270900001800000000001 0
      0xFF7E00FE02FCA0607FFE0000FFFFFFFE false = true := by
  decide +kernel
theorem test_vsubuwm : gives (.vsubuwm 4 1 2) 0x007F80FF01FE10F07FFF8000FFFFFFFF 0x01018001FF0270900001800000000001 0
      0xFF7E00FE02FBA0607FFE0000FFFFFFFE false = true := by
  decide +kernel
theorem test_vsububs : gives (.vsububs 4 1 2) 0x007F80FF01FE10F07FFF8000FFFFFFFF 0x01018001FF0270900001800000000001 0
      0x007E00FE00FC00607FFE0000FFFFFFFE true = true := by
  decide +kernel
theorem test_vsubuhs : gives (.vsubuhs 4 1 2) 0x007F80FF01FE10F07FFF8000FFFFFFFF 0x01018001FF0270900001800000000001 0
      0x000000FE000000007FFE0000FFFFFFFE true = true := by
  decide +kernel
theorem test_vsubuws : gives (.vsubuws 4 1 2) 0x007F80FF01FE10F07FFF8000FFFFFFFF 0x01018001FF0270900001800000000001 0
      0x00000000000000007FFE0000FFFFFFFE true = true := by
  decide +kernel
theorem test_vsubsbs : gives (.vsubsbs 4 1 2) 0x007F80FF01FE10F07FFF8000FFFFFFFF 0x01018001FF0270900001800000000001 0
      0xFF7E00FE02FCA0607FFE0000FFFFFFFE false = true := by
  decide +kernel
theorem test_vsubshs : gives (.vsubshs 4 1 2) 0x007F80FF01FE10F07FFF8000FFFFFFFF 0x01018001FF0270900001800000000001 0
      0xFF7E00FE02FCA0607FFE0000FFFFFFFE false = true := by
  decide +kernel
theorem test_vsubsws : gives (.vsubsws 4 1 2) 0x007F80FF01FE10F07FFF8000FFFFFFFF 0x01018001FF0270900001800000000001 0
      0xFF7E00FE02FBA0607FFE0000FFFFFFFE false = true := by
  decide +kernel
theorem test_vmuleub : gives (.vmuleub 4 1 2) 0x7FFFFFFF80000000FFFFFFFF00000000 0x00000001FFFFFFFFFFFFFFFF00000000 0
      0x000000007F800000FE01FE0100000000 false = true := by
  decide +kernel
theorem test_vmuleuh : gives (.vmuleuh 4 1 2) 0x007F80FF01FE10F07FFF8000FFFFFFFF 0x01018001FF0270900001800000000001 0
      0x00007F7F01FC05FC00007FFF00000000 false = true := by
  decide +kernel
theorem test_vmulesb : gives (.vmulesb 4 1 2) 0x007F80FF01FE10F07FFF8000FFFFFFFF 0x01018001FF0270900001800000000001 0
      0x00004000FFFF07000000400000000000 false = true := by
  decide +kernel
theorem test_vmulesh : gives (.vmulesh 4 1 2) 0x007F80FF01FE10F07FFF8000FFFFFFFF 0x01018001FF0270900001800000000001 0
      0x00007F7FFFFE05FC00007FFF00000000 false = true := by
  decide +kernel
theorem test_vmuloub : gives (.vmuloub 4 1 2) 0x007F80FF01FE10F07FFF8000FFFFFFFF 0x01018001FF0270900001800000000001 0
      0x007F00FF01FC870000FF0000000000FF false = true := by
  decide +kernel
theorem test_vmulouh : gives (.vmulouh 4 1 2) 0x007F80FF01FE10F07FFF8000FFFFFFFF 0x01018001FF0270900001800000000001 0
      0x408000FF07728700400000000000FFFF false = true := by
  decide +kernel
theorem test_vmulosb : gives (.vmulosb 4 1 2) 0x007F80FF01FE10F07FFF8000FFFFFFFF 0x01018001FF0270900001800000000001 0
      0x007FFFFFFFFC0700FFFF00000000FFFF false = true := by
  decide +kernel
theorem test_vmulosh : gives (.vmulosh 4 1 2) 0x007F80FF01FE10F07FFF8000FFFFFFFF 0x01018001FF0270900001800000000001 0
      0x3F8000FF0772870040000000FFFFFFFF false = true := by
  decide +kernel
theorem test_vmhaddshs : gives (.vmhaddshs 4 1 2 3) 0x007F80FF01FE10F07FFF8000FFFFFFFF 0x01018001FF0270900001800000000001 0x000000017FFFFFFF80000000FFFFFFFF
      0x00007F017FFB0EE480007FFFFFFFFFFE true = true := by
  decide +kernel
theorem test_vmhraddshs : gives (.vmhraddshs 4 1 2 3) 0x007F80FF01FE10F07FFF8000FFFFFFFF 0x01018001FF0270900001800000000001 0x000000017FFFFFFF80000000FFFFFFFF
      0x00017F017FFB0EE480017FFFFFFFFFFF true = true := by
  decide +kernel
theorem test_vmladduhm : gives (.vmladduhm 4 1 2 3) 0x007F80FF01FE10F07FFF8000FFFFFFFF 0x01018001FF0270900001800000000001 0x000000017FFFFFFF80000000FFFFFFFF
      0x7F7F010085FB86FFFFFF0000FFFFFFFE false = true := by
  decide +kernel
theorem test_vmsumubm : gives (.vmsumubm 4 1 2 3) 0x007F80FF01FE10F07FFF8000FFFFFFFF 0x01018001FF0270900001800000000001 0x000000017FFFFFFF80000000FFFFFFFF
      0x0000417F800090FA800040FF000000FE false = true := by
  decide +kernel
theorem test_vmsummbm : gives (.vmsummbm 4 1 2 3) 0x7FFFFFFF80000000FFFFFFFF00000000 0x00000001FFFFFFFFFFFFFFFF00000000 0x7FFFFFFF800000000000000000000001
      0x7FFFFFFE7FFF8080FFFFFC0400000001 false = true := by
  decide +kernel
theorem test_vmsumuhm : gives (.vmsumuhm 4 1 2 3) 0x007F80FF01FE10F07FFF8000FFFFFFFF 0x01018001FF0270900001800000000001 0x000000017FFFFFFF80000000FFFFFFFF
      0x4080807F896E8CFBC0007FFF0000FFFE false = true := by
  decide +kernel
theorem test_vmsumuhs : gives (.vmsumuhs 4 1 2 3) 0x007F80FF01FE10F07FFF8000FFFFFFFF 0x01018001FF0270900001800000000001 0x000000017FFFFFFF80000000FFFFFFFF
      0x4080807F896E8CFBC0007FFFFFFFFFFF true = true := by
  decide +kernel
theorem test_vmsumshm : gives (.vmsumshm 4 1 2 3) 0x007F80FF01FE10F07FFF8000FFFFFFFF 0x01018001FF0270900001800000000001 0x000000017FFFFFFF80000000FFFFFFFF
      0x3F80807F87708CFBC0007FFFFFFFFFFE false = true := by
  decide +kernel
theorem test_vmsumshs : gives (.vmsumshs 4 1 2 3) 0x007F80FF01FE10F07FFF8000FFFFFFFF 0x01018001FF0270900001800000000001 0x000000017FFFFFFF80000000FFFFFFFF
      0x3F80807F7FFFFFFFC0007FFFFFFFFFFE true = true := by
  decide +kernel
theorem test_vsumsws : gives (.vsumsws 4 1 2) 0x007F80FF01FE10F07FFF8000FFFFFFFF 0x01018001FF0270900001800000000001 0
      0x0000000000000000000000007FFFFFFF true = true := by
  decide +kernel
theorem test_vsum2sws : gives (.vsum2sws 4 1 2) 0x7FFFFFFF7FFFFFFF7FFFFFFF7FFFFFFF 0x7FFFFFFF7FFFFFFF7FFFFFFF7FFFFFFF 0
      0x000000007FFFFFFF000000007FFFFFFF true = true := by
  decide +kernel
theorem test_vsum4ubs : gives (.vsum4ubs 4 1 2) 0x7FFFFFFF80000000FFFFFFFF00000000 0x00000001FFFFFFFFFFFFFFFF00000000 0
      0x0000037DFFFFFFFFFFFFFFFF00000000 true = true := by
  decide +kernel
theorem test_vsum4sbs : gives (.vsum4sbs 4 1 2) 0x7FFFFFFF7FFFFFFF7FFFFFFF7FFFFFFF 0x7FFFFFFF7FFFFFFF7FFFFFFF7FFFFFFF 0
      0x7FFFFFFF7FFFFFFF7FFFFFFF7FFFFFFF true = true := by
  decide +kernel
theorem test_vsum4shs : gives (.vsum4shs 4 1 2) 0x7FFFFFFF7FFFFFFF7FFFFFFF7FFFFFFF 0x7FFFFFFF7FFFFFFF7FFFFFFF7FFFFFFF 0
      0x7FFFFFFF7FFFFFFF7FFFFFFF7FFFFFFF true = true := by
  decide +kernel
theorem test_vavgub : gives (.vavgub 4 1 2) 0x007F80FF01FE10F07FFF8000FFFFFFFF 0x01018001FF0270900001800000000001 0
      0x01408080808040C04080800080808080 false = true := by
  decide +kernel
theorem test_vavguh : gives (.vavguh 4 1 2) 0x7FFFFFFF80000000FFFFFFFF00000000 0x00000001FFFFFFFFFFFFFFFF00000000 0
      0x40008000C0008000FFFFFFFF00000000 false = true := by
  decide +kernel
theorem test_vavguw : gives (.vavguw 4 1 2) 0x007F80FF01FE10F07FFF8000FFFFFFFF 0x01018001FF0270900001800000000001 0
      0x00C08080808040C04000800080000000 false = true := by
  decide +kernel
theorem test_vavgsb : gives (.vavgsb 4 1 2) 0x007F80FF01FE10F07FFF8000FFFFFFFF 0x01018001FF0270900001800000000001 0
      0x01408000000040C04000800000000000 false = true := by
  decide +kernel
theorem test_vavgsh : gives (.vavgsh 4 1 2) 0x007F80FF01FE10F07FFF8000FFFFFFFF 0x01018001FF0270900001800000000001 0
      0x00C08080008040C04000800000000000 false = true := by
  decide +kernel
theorem test_vavgsw : gives (.vavgsw 4 1 2) 0x007F80FF01FE10F07FFF8000FFFFFFFF 0x01018001FF0270900001800000000001 0
      0x00C08080008040C04000800000000000 false = true := by
  decide +kernel
theorem test_vmaxub : gives (.vmaxub 4 1 2) 0x007F80FF01FE10F07FFF8000FFFFFFFF 0x01018001FF0270900001800000000001 0
      0x017F80FFFFFE70F07FFF8000FFFFFFFF false = true := by
  decide +kernel
theorem test_vmaxuh : gives (.vmaxuh 4 1 2) 0x007F80FF01FE10F07FFF8000FFFFFFFF 0x01018001FF0270900001800000000001 0
      0x010180FFFF0270907FFF8000FFFFFFFF false = true := by
  decide +kernel
theorem test_vmaxuw : gives (.vmaxuw 4 1 2) 0x007F80FF01FE10F07FFF8000FFFFFFFF 0x01018001FF0270900001800000000001 0
      0x01018001FF0270907FFF8000FFFFFFFF false = true := by
  decide +kernel
theorem test_vmaxsb : gives (.vmaxsb 4 1 2) 0x007F80FF01FE10F07FFF8000FFFFFFFF 0x01018001FF0270900001800000000001 0
      0x017F8001010270F07F01800000000001 false = true := by
  decide +kernel
theorem test_vmaxsh : gives (.vmaxsh 4 1 2) 0x007F80FF01FE10F07FFF8000FFFFFFFF 0x01018001FF0270900001800000000001 0
      0x010180FF01FE70907FFF800000000001 false = true := by
  decide +kernel
theorem test_vmaxsw : gives (.vmaxsw 4 1 2) 0x007F80FF01FE10F07FFF8000FFFFFFFF 0x01018001FF0270900001800000000001 0
      0x0101800101FE10F07FFF800000000001 false = true := by
  decide +kernel
theorem test_vminub : gives (.vminub 4 1 2) 0x007F80FF01FE10F07FFF8000FFFFFFFF 0x01018001FF0270900001800000000001 0
      0x00018001010210900001800000000001 false = true := by
  decide +kernel
theorem test_vminuh : gives (.vminuh 4 1 2) 0x007F80FF01FE10F07FFF8000FFFFFFFF 0x01018001FF0270900001800000000001 0
      0x007F800101FE10F00001800000000001 false = true := by
  decide +kernel
theorem test_vminuw : gives (.vminuw 4 1 2) 0x007F80FF01FE10F07FFF8000FFFFFFFF 0x01018001FF0270900001800000000001 0
      0x007F80FF01FE10F00001800000000001 false = true := by
  decide +kernel
theorem test_vminsb : gives (.vminsb 4 1 2) 0x007F80FF01FE10F07FFF8000FFFFFFFF 0x01018001FF0270900001800000000001 0
      0x000180FFFFFE109000FF8000FFFFFFFF false = true := by
  decide +kernel
theorem test_vminsh : gives (.vminsh 4 1 2) 0x007F80FF01FE10F07FFF8000FFFFFFFF 0x01018001FF0270900001800000000001 0
      0x007F8001FF0210F000018000FFFFFFFF false = true := by
  decide +kernel
theorem test_vminsw : gives (.vminsw 4 1 2) 0x007F80FF01FE10F07FFF8000FFFFFFFF 0x01018001FF0270900001800000000001 0
      0x007F80FFFF02709000018000FFFFFFFF false = true := by
  decide +kernel
theorem test_vcmpequb : givesCR (.vcmpequb 4 1 2 true) 0x007F80FF01FE10F07FFF8000FFFFFFFF 0x01018001FF0270900001800000000001
      0x0000FF00000000000000FFFF00000000 0x12345608 = true := by
  decide +kernel
theorem test_vcmpequh : givesCR (.vcmpequh 4 1 2 true) 0x007F80FF01FE10F07FFF8000FFFFFFFF 0x01018001FF0270900001800000000001
      0x00000000000000000000FFFF00000000 0x12345608 = true := by
  decide +kernel
theorem test_vcmpequw : givesCR (.vcmpequw 4 1 2 true) 0x7FFFFFFF80000000FFFFFFFF00000000 0x00000001FFFFFFFFFFFFFFFF00000000
      0x0000000000000000FFFFFFFFFFFFFFFF 0x12345608 = true := by
  decide +kernel
theorem test_vcmpgtub : givesCR (.vcmpgtub 4 1 2 true) 0x007F80FF01FE10F07FFF8000FFFFFFFF 0x01018001FF0270900001800000000001
      0x00FF00FF00FF00FFFFFF0000FFFFFFFF 0x12345608 = true := by
  decide +kernel
theorem test_vcmpgtuh : givesCR (.vcmpgtuh 4 1 2 true) 0x007F80FF01FE10F07FFF8000FFFFFFFF 0x01018001FF0270900001800000000001
      0x0000FFFF00000000FFFF0000FFFFFFFF 0x12345608 = true := by
  decide +kernel
theorem test_vcmpgtuw : givesCR (.vcmpgtuw 4 1 2 true) 0x007F80FF01FE10F07FFF8000FFFFFFFF 0x01018001FF0270900001800000000001
      0x0000000000000000FFFFFFFFFFFFFFFF 0x12345608 = true := by
  decide +kernel
theorem test_vcmpgtsb : givesCR (.vcmpgtsb 4 1 2 true) 0x007F80FF01FE10F07FFF8000FFFFFFFF 0x01018001FF0270900001800000000001
      0x00FF0000FF0000FFFF00000000000000 0x12345608 = true := by
  decide +kernel
theorem test_vcmpgtsh : givesCR (.vcmpgtsh 4 1 2 true) 0x007F80FF01FE10F07FFF8000FFFFFFFF 0x01018001FF0270900001800000000001
      0x0000FFFFFFFF0000FFFF000000000000 0x12345608 = true := by
  decide +kernel
theorem test_vcmpgtsw : givesCR (.vcmpgtsw 4 1 2 true) 0x007F80FF01FE10F07FFF8000FFFFFFFF 0x01018001FF0270900001800000000001
      0x00000000FFFFFFFFFFFFFFFF00000000 0x12345608 = true := by
  decide +kernel
theorem test_vand : gives (.vand 4 1 2) 0x007F80FF01FE10F07FFF8000FFFFFFFF 0x01018001FF0270900001800000000001 0
      0x00018001010210900001800000000001 false = true := by
  decide +kernel
theorem test_vandc : gives (.vandc 4 1 2) 0x007F80FF01FE10F07FFF8000FFFFFFFF 0x01018001FF0270900001800000000001 0
      0x007E00FE00FC00607FFE0000FFFFFFFE false = true := by
  decide +kernel
theorem test_vnor : gives (.vnor 4 1 2) 0x007F80FF01FE10F07FFF8000FFFFFFFF 0x01018001FF0270900001800000000001 0
      0xFE807F0000018F0F80007FFF00000000 false = true := by
  decide +kernel
theorem test_vor : gives (.vor 4 1 2) 0x007F80FF01FE10F07FFF8000FFFFFFFF 0x01018001FF0270900001800000000001 0
      0x017F80FFFFFE70F07FFF8000FFFFFFFF false = true := by
  decide +kernel
theorem test_vxor : gives (.vxor 4 1 2) 0x007F80FF01FE10F07FFF8000FFFFFFFF 0x01018001FF0270900001800000000001 0
      0x017E00FEFEFC60607FFE0000FFFFFFFE false = true := by
  decide +kernel
theorem test_vrlb : gives (.vrlb 4 1 2) 0x007F80FF01FE10F07FFF8000FFFFFFFF 0x01018001FF0270900001800000000001 0
      0x00FE80FF80FB10F07FFF8000FFFFFFFF false = true := by
  decide +kernel
theorem test_vrlh : gives (.vrlh 4 1 2) 0x80C1FF018001FFFE800000017FFFFFFF 0x0001070F000F00110000001F00000020 0
      0x0183FF80C000FFFD800080007FFFFFFF false = true := by
  decide +kernel
theorem test_vrlw : gives (.vrlw 4 1 2) 0x80C1FF018001FFFE800000017FFFFFFF 0x0001070F000F00110000001F00000020 0
      0xFF80C060FFFD0003C00000007FFFFFFF false = true := by
  decide +kernel
theorem test_vslb : gives (.vslb 4 1 2) 0x007F80FF01FE10F07FFF8000FFFFFFFF 0x01018001FF0270900001800000000001 0
      0x00FE80FE80F810F07FFE8000FFFFFFFE false = true := by
  decide +kernel
theorem test_vslh : gives (.vslh 4 1 2) 0x80C1FF018001FFFE800000017FFFFFFF 0x0001070F000F00110000001F00000020 0
      0x018280008000FFFC800080007FFFFFFF false = true := by
  decide +kernel
theorem test_vslw : gives (.vslw 4 1 2) 0x007F80FF01FE10F07FFF8000FFFFFFFF 0x01018001FF0270900001800000000001 0
      0x00FF01FE10F000007FFF8000FFFFFFFE false = true := by
  decide +kernel
theorem test_vsrb : gives (.vsrb 4 1 2) 0x007F80FF01FE10F07FFF8000FFFFFFFF 0x01018001FF0270900001800000000001 0
      0x003F807F003F10F07F7F8000FFFFFF7F false = true := by
  decide +kernel
theorem test_vsrh : gives (.vsrh 4 1 2) 0x007F80FF01FE10F07FFF8000FFFFFFFF 0x01018001FF0270900001800000000001 0
      0x003F407F007F10F03FFF8000FFFF7FFF false = true := by
  decide +kernel
theorem test_vsrw : gives (.vsrw 4 1 2) 0x007F80FF01FE10F07FFF8000FFFFFFFF 0x01018001FF0270900001800000000001 0
      0x003FC07F000001FE7FFF80007FFFFFFF false = true := by
  decide +kernel
theorem test_vsrab : gives (.vsrab 4 1 2) 0x007F80FF01FE10F07FFF8000FFFFFFFF 0x01018001FF0270900001800000000001 0
      0x003F80FF00FF10F07FFF8000FFFFFFFF false = true := by
  decide +kernel
theorem test_vsrah : gives (.vsrah 4 1 2) 0x007F80FF01FE10F07FFF8000FFFFFFFF 0x01018001FF0270900001800000000001 0
      0x003FC07F007F10F03FFF8000FFFFFFFF false = true := by
  decide +kernel
theorem test_vsraw : gives (.vsraw 4 1 2) 0x007F80FF01FE10F07FFF8000FFFFFFFF 0x01018001FF0270900001800000000001 0
      0x003FC07F000001FE7FFF8000FFFFFFFF false = true := by
  decide +kernel
theorem test_vpkuhum : gives (.vpkuhum 4 1 2) 0x000102030405060708090A0B0C0D0E0F 0x101112131415161718191A1B1C1D1E1F 0
      0x01030507090B0D0F11131517191B1D1F false = true := by
  decide +kernel
theorem test_vpkuwum : gives (.vpkuwum 4 1 2) 0x000102030405060708090A0B0C0D0E0F 0x101112131415161718191A1B1C1D1E1F 0
      0x020306070A0B0E0F121316171A1B1E1F false = true := by
  decide +kernel
theorem test_vpkuhus : gives (.vpkuhus 4 1 2) 0x007F80FF01FE10F07FFF8000FFFFFFFF 0x01018001FF0270900001800000000001 0
      0x7FFFFFFFFFFFFFFFFFFFFFFF01FF0001 true = true := by
  decide +kernel
theorem test_vpkuwus : gives (.vpkuwus 4 1 2) 0x7FFFFFFF80000000FFFFFFFF00000000 0x00000001FFFFFFFFFFFFFFFF00000000 0
      0xFFFFFFFFFFFF00000001FFFFFFFF0000 true = true := by
  decide +kernel
theorem test_vpkshus : gives (.vpkshus 4 1 2) 0x007F80FF01FE10F07FFF8000FFFFFFFF 0x01018001FF0270900001800000000001 0
      0x7F00FFFFFF000000FF0000FF01000001 true = true := by
  decide +kernel
theorem test_vpkswus : gives (.vpkswus 4 1 2) 0x007F80FF01FE10F07FFF8000FFFFFFFF 0x01018001FF0270900001800000000001 0
      0xFFFFFFFFFFFF0000FFFF0000FFFF0001 true = true := by
  decide +kernel
theorem test_vpkshss : gives (.vpkshss 4 1 2) 0x007F80FF01FE10F07FFF8000FFFFFFFF 0x01018001FF0270900001800000000001 0
      0x7F807F7F7F80FFFF7F80807F01800001 true = true := by
  decide +kernel
theorem test_vpkswss : gives (.vpkswss 4 1 2) 0x007F80FF01FE10F07FFF8000FFFFFFFF 0x01018001FF0270900001800000000001 0
      0x7FFF7FFF7FFFFFFF7FFF80007FFF0001 true = true := by
  decide +kernel
theorem test_vpkpx : gives (.vpkpx 4 1 2) 0x007F80FF01FE10F07FFF8000FFFFFFFF 0x01018001FF0270900001800000000001 0
      0x3E1FFC5EFE00FFFF820081D202000000 false = true := by
  decide +kernel
theorem test_vupkhsb : gives (.vupkhsb 4 2) 0 0x7F80FF0100FE8001FFFF7FFF80000001 0
      0x007FFF80FFFF00010000FFFEFF800001 false = true := by
  decide +kernel
theorem test_vupklsb : gives (.vupklsb 4 2) 0 0x7F80FF0100FE8001FFFF7FFF80000001 0
      0xFFFFFFFF007FFFFFFF80000000000001 false = true := by
  decide +kernel
theorem test_vupkhsh : gives (.vupkhsh 4 2) 0 0x7F80FF0100FE8001FFFF7FFF80000001 0
      0x00007F80FFFFFF01000000FEFFFF8001 false = true := by
  decide +kernel
theorem test_vupklsh : gives (.vupklsh 4 2) 0 0x7F80FF0100FE8001FFFF7FFF80000001 0
      0xFFFFFFFF00007FFFFFFF800000000001 false = true := by
  decide +kernel
theorem test_vupkhpx : gives (.vupkhpx 4 2) 0 0x7F80FF0100FE8001FFFF7FFF80000001 0
      0x001F1C00FF1F18010000071EFF000001 false = true := by
  decide +kernel
theorem test_vupklpx : gives (.vupklpx 4 2) 0 0x7F80FF0100FE8001FFFF7FFF80000001 0
      0xFF1F1F1F001F1F1FFF00000000000001 false = true := by
  decide +kernel
theorem test_vmrghb : gives (.vmrghb 4 1 2) 0x000102030405060708090A0B0C0D0E0F 0x101112131415161718191A1B1C1D1E1F 0
      0x00100111021203130414051506160717 false = true := by
  decide +kernel
theorem test_vmrghh : gives (.vmrghh 4 1 2) 0x000102030405060708090A0B0C0D0E0F 0x101112131415161718191A1B1C1D1E1F 0
      0x00011011020312130405141506071617 false = true := by
  decide +kernel
theorem test_vmrghw : gives (.vmrghw 4 1 2) 0x000102030405060708090A0B0C0D0E0F 0x101112131415161718191A1B1C1D1E1F 0
      0x00010203101112130405060714151617 false = true := by
  decide +kernel
theorem test_vmrglb : gives (.vmrglb 4 1 2) 0x000102030405060708090A0B0C0D0E0F 0x101112131415161718191A1B1C1D1E1F 0
      0x081809190A1A0B1B0C1C0D1D0E1E0F1F false = true := by
  decide +kernel
theorem test_vmrglh : gives (.vmrglh 4 1 2) 0x000102030405060708090A0B0C0D0E0F 0x101112131415161718191A1B1C1D1E1F 0
      0x080918190A0B1A1B0C0D1C1D0E0F1E1F false = true := by
  decide +kernel
theorem test_vmrglw : gives (.vmrglw 4 1 2) 0x000102030405060708090A0B0C0D0E0F 0x101112131415161718191A1B1C1D1E1F 0
      0x08090A0B18191A1B0C0D0E0F1C1D1E1F false = true := by
  decide +kernel
theorem test_vspltb : gives (.vspltb 4 0 2) 0 0x101112131415161718191A1B1C1D1E1F 0
      0x10101010101010101010101010101010 false = true := by
  decide +kernel
theorem test_vsplth : gives (.vsplth 4 7 2) 0 0x101112131415161718191A1B1C1D1E1F 0
      0x1E1F1E1F1E1F1E1F1E1F1E1F1E1F1E1F false = true := by
  decide +kernel
theorem test_vspltw : gives (.vspltw 4 3 2) 0 0x101112131415161718191A1B1C1D1E1F 0
      0x1C1D1E1F1C1D1E1F1C1D1E1F1C1D1E1F false = true := by
  decide +kernel
theorem test_vspltisb : gives (.vspltisb 4 1) 0 0 0
      0x01010101010101010101010101010101 false = true := by
  decide +kernel
theorem test_vspltish : gives (.vspltish 4 1) 0 0 0
      0x00010001000100010001000100010001 false = true := by
  decide +kernel
theorem test_vspltisw : gives (.vspltisw 4 1) 0 0 0
      0x00000001000000010000000100000001 false = true := by
  decide +kernel
theorem test_vperm : gives (.vperm 4 1 2 3) 0x000102030405060708090A0B0C0D0E0F 0x101112131415161718191A1B1C1D1E1F 0x1F000F10E0FF80902A3B4C5D11011101
      0x1F000F10001F00100A1B0C1D11011101 false = true := by
  decide +kernel
theorem test_vsel : gives (.vsel 4 1 2 3) 0x000102030405060708090A0B0C0D0E0F 0x101112131415161718191A1B1C1D1E1F 0xFFFF0000F0F0F0F0AAAAAAAA00000001
      0x101102031415161708090A0B0C0D0E0F false = true := by
  decide +kernel
theorem test_vsldoi : gives (.vsldoi 4 1 2 0) 0x000102030405060708090A0B0C0D0E0F 0x101112131415161718191A1B1C1D1E1F 0
      0x000102030405060708090A0B0C0D0E0F false = true := by
  decide +kernel
theorem test_vsl : gives (.vsl 4 1 2) 0x80000001F00000000000000F80000001 0x03030303030303030303030303030303 0
      0x0000000F800000000000007C00000008 false = true := by
  decide +kernel
theorem test_vsr : gives (.vsr 4 1 2) 0x80000001F00000000000000F80000001 0x03030303030303030303030303030303 0
      0x100000003E00000000000001F0000000 false = true := by
  decide +kernel
theorem test_vslo : gives (.vslo 4 1 2) 0x000102030405060708090A0B0C0D0E0F 0xDEADBEEFDEADBEEFDEADBEEFDEADBE00 0
      0x000102030405060708090A0B0C0D0E0F false = true := by
  decide +kernel
theorem test_vsro : gives (.vsro 4 1 2) 0x000102030405060708090A0B0C0D0E0F 0xDEADBEEFDEADBEEFDEADBEEFDEADBE00 0
      0x000102030405060708090A0B0C0D0E0F false = true := by
  decide +kernel

/-! ## Floating point, element by element (96_test_vectors_arith.md): the functions of FloatArith with NJ given -/

theorem test_vaddfp_Java : map2 32 (fpAdd false) 0x7F7FFFFF3F8000017F80000180000000 0x7F7FFFFF338000003F80000000000000
      = 0x7F8000003F8000027FC0000100000000 := by
  decide +kernel
theorem test_vaddfp_nonJava : map2 32 (fpAdd true) 0x7F7FFFFF3F8000017F80000180000000 0x7F7FFFFF338000003F80000000000000
      = 0x7F8000003F8000027FC0000100000000 := by
  decide +kernel
theorem test_vsubfp_Java : map2 32 (fpSub false) 0x3F800000C0200000000000017F800000 0x400000004020000000000001FF800000
      = 0xBF800000C0A00000000000007F800000 := by
  decide +kernel
theorem test_vmaddfp_Java : map3 32 (fpMulAdd false) 0x7F7FFFFF3F8000017F80000180000000 0x7F7FFFFF338000003F80000000000000 0x400000003F8000007FA0000180000000
      = 0x7F8000003F8000027FC0000100000000 := by
  decide +kernel
theorem test_vmaddfp_nonJava : map3 32 (fpMulAdd true) 0x7F7FFFFF3F8000017F80000180000000 0x7F7FFFFF338000003F80000000000000 0x400000003F8000007FA0000180000000
      = 0x7F8000003F8000027FC0000100000000 := by
  decide +kernel
theorem test_vnmsubfp_Java : map3 32 (fpNegMulSub false) 0x3F800000C0200000000000017F800000 0x400000004020000000000001FF800000 0x3F800000400000003F80000000000000
      = 0x3F80000040F00000800000007FC00000 := by
  decide +kernel
theorem test_vmaxfp_Java : map2 32 (fpMax false) 0x3F800000C0200000000000017F800000 0x400000004020000000000001FF800000
      = 0x4000000040200000000000017F800000 := by
  decide +kernel
theorem test_vmaxfp_nonJava : map2 32 (fpMax true) 0x7F7FFFFF3F8000017F80000180000000 0x7F7FFFFF338000003F80000000000000
      = 0x7F7FFFFF3F8000017FC0000100000000 := by
  decide +kernel
theorem test_vminfp_Java : map2 32 (fpMin false) 0x3F800000C0200000000000017F800000 0x400000004020000000000001FF800000
      = 0x3F800000C020000000000001FF800000 := by
  decide +kernel
theorem test_vcmpeqfp_Java : map2 32 (fun a b => truth 32 (fpEq false a b)) 0x3F800000C0200000000000017F800000 0x400000004020000000000001FF800000
      = 0x0000000000000000FFFFFFFF00000000 ∧
    compareCR6 0x0000000000000000FFFFFFFF00000000 = 0 := by
  decide +kernel
theorem test_vcmpgefp_Java : map2 32 (fun a b => truth 32 (fpGe false a b)) 0x3F800000C0200000000000017F800000 0x400000004020000000000001FF800000
      = 0x0000000000000000FFFFFFFFFFFFFFFF ∧
    compareCR6 0x0000000000000000FFFFFFFFFFFFFFFF = 0 := by
  decide +kernel
theorem test_vcmpgtfp_Java : map2 32 (fun a b => truth 32 (fpGt false a b)) 0x3F800000C0200000000000017F800000 0x400000004020000000000001FF800000
      = 0x000000000000000000000000FFFFFFFF ∧
    compareCR6 0x000000000000000000000000FFFFFFFF = 0 := by
  decide +kernel
theorem test_vcmpgtfp_nonJava : map2 32 (fun a b => truth 32 (fpGt true a b)) 0x3F800000C0200000000000017F800000 0x400000004020000000000001FF800000
      = 0x000000000000000000000000FFFFFFFF := by
  decide +kernel
theorem test_vcmpbfp_Java : map2 32 (fpBounds false) 0x3F800000C0200000000000017F800000 0x400000004020000000000001FF800000
      = 0x00000000000000000000000080000000 ∧
    boundsCR6 0x00000000000000000000000080000000 = 0 := by
  decide +kernel
theorem test_vcmpbfp_nonJava : map2 32 (fpBounds true) 0xFFC000010080000000FFFFFF80FFFFFF 0x7FC00002807FFFFF8080000000800000
      = 0xC0000000800000008000000040000000 := by
  decide +kernel
theorem test_vrfin_Java : map1 32 (fpRoundInt .nearest false) 0xBFC000004B000001000000017F800001
      = 0xC00000004B000001000000007FC00001 := by
  decide +kernel
theorem test_vrfiz_Java : map1 32 (fpRoundInt .zero false) 0xBFC000004B000001000000017F800001
      = 0xBF8000004B000001000000007FC00001 := by
  decide +kernel
theorem test_vrfip_Java : map1 32 (fpRoundInt .up false) 0xBFC000004B000001000000017F800001
      = 0xBF8000004B0000013F8000007FC00001 := by
  decide +kernel
theorem test_vrfim_Java : map1 32 (fpRoundInt .down false) 0x800000014AFFFFFFCAFFFFFF3EFFFFFF
      = 0xBF8000004AFFFFFECB00000000000000 := by
  decide +kernel
theorem test_vcfux_Java : map1 32 (fun b => fpOfInt false (ui b) 1) 0x7FFFFFFF00FFFFFF0100000300000000
      = 0x4E8000004AFFFFFF4B00000200000000 := by
  decide +kernel
theorem test_vcfsx_Java : map1 32 (fun b => fpOfInt false (si b) 1) 0x00000001FFFFFFFF8000000001000001
      = 0x3F000000BF000000CE8000004B000000 := by
  decide +kernel
theorem test_vctuxs_Java : buildSat 32 (fun k => fpToInt .unsigned false (elem 32 k 0x7FA00001800000003F7FFFFF4F7FFFFF) 31)
      = (0x00000000000000007FFFFF80FFFFFFFF, true) := by
  decide +kernel
theorem test_vctsxs_Java : buildSat 32 (fun k => fpToInt .signed false (elem 32 k 0x3FC00000BFC000004F000000CF000000) 1)
      = (0x00000003FFFFFFFD7FFFFFFF80000000, true) := by
  decide +kernel
theorem test_vctsxs_nonJava : buildSat 32 (fun k => fpToInt .signed true (elem 32 k 0xBF4000004EFFFFFF00000001CF000001) 31)
      = (0xA00000007FFFFFFF0000000080000000, true) := by
  decide +kernel

/-- The zeros of multiply-add (95_test_vectors.md S10). -/
theorem test_vmaddfp_zeros : map3 32 (fpMulAdd false) 0x3F800000BF8000000000000080000000 0x80000000800000008000000080000000
      0x00000000000000008000000000000000 = 0x00000000800000008000000080000000 := by
  decide +kernel
/-- 95_test_vectors.md S11, first vector of each. -/
theorem test_vrefp : (build 32 fun k => recipEstimate 0 k false (elem 32 k 0xFF80000080000000000000007F800000)) =
    0x80000000FF8000007F80000000000000 := by decide +kernel
theorem test_vrsqrtefp : (build 32 fun k => rsqrtEstimate 0 k false (elem 32 k 0xFF80000080000000000000007F800000)) =
    0x7FC00000FF8000007F80000000000000 := by decide +kernel
theorem test_vexptefp : (build 32 fun k => exp2Estimate 0 k false (elem 32 k 0xFF80000080000000000000007F800000)) =
    0x000000003F8000003F8000007F800000 := by decide +kernel
theorem test_vlogefp : (build 32 fun k => log2Estimate 0 k false (elem 32 k 0xFF80000080000000000000007F800000)) =
    0x7FC00000FF800000FF8000007F800000 := by decide +kernel
/-- 95_test_vectors.md S12: a permitted estimate of 1/3; the next power of two is none. -/
theorem test_vrefp_permitted : recipPermitted false 0x40400000 0x3EAAA000 = true ∧ recipPermitted false 0x40400000 0x3E800000 = false := by
  decide +kernel
/-- 95_test_vectors.md S11: 2^(-1) is exact. 2^(-145.6875) is 9.93 * 2^-149: 10 of these is within 1/16 of it, 9 is not. -/
theorem test_vexptefp_permitted : exp2Permitted false (fpVal 0xBF800000) 0x3F000000 = true ∧
    exp2Permitted false (fpVal 0xBF800000) 0x3F000001 = false ∧ exp2Permitted false (fpVal 0xC311B000) 10 = true ∧
    exp2Permitted false (fpVal 0xC311B000) 9 = false := by
  decide +kernel
/-- 43_float.md R384: log2 8 is 3, to within 1/32. -/
theorem test_vlogefp_permitted : log2Permitted false 0x41000000 0x40400000 = true ∧ log2Permitted false 0x41000000 0x40480000 = false := by
  decide +kernel
/-- 43_float.md R382: 1/sqrt 4 is 0.5, to within 1/4096. -/
theorem test_vrsqrtefp_permitted : rsqrtPermitted 0x40800000 0x3F000000 = true ∧ rsqrtPermitted 0x40800000 0x3F004000 = false := by
  decide +kernel

/-! ## Loads and stores (95_test_vectors.md 2.2) -/

/-- The bytes 0x2000 to 0x201F of 95_test_vectors.md 2.2, GPR3 = 0x2000, GPR5 as given, VR4 the vector that is stored. -/
def memState (le : Bool) (r5 : Word) : State :=
  let s : State := { State.reset with msr := if le then 0x02000001 else 0x02000000, pc := 0x1000 }
  ((((s.writeV 4 0x00112233445566778899AABBCCDDEEFF).writeG 3 0x2000).writeG 5 r5).memWrite 0x2000 16
    0xA0A1A2A3A4A5A6A7A8A9AAABACADAEAF).memWrite 0x2010 16 0xB0B1B2B3B4B5B6B7B8B9BABBBCBDBEBF

/-- After `i`, VR4 and-ed with `mask` is `q`. -/
def loads (i : Instr) (le : Bool) (r5 : Word) (mask q : Quad) : Bool :=
  match exec i (memState le r5) with
  | .next t => t.readV 4 &&& mask == q
  | _ => false

/-- What an element load of `n` bytes puts into the element `k` of VR4. -/
theorem loaded (s : State) (n k : Nat) (ea : Word) (x : BitVec (8 * n)) (hn : 8 * n ∣ 128) (h0 : 0 < 8 * n) (hk : k < 128 / (8 * n))
    (hv : s.vec = true) (hl : s.lane n ea = k) (hx : s.memRead (s.munge n ea) n = x) :
    ∃ t, accessStep s ea s (s.loadElement n 4 ea) = .next t ∧ elem (8 * n) k (t.readV 4) = x := by
  refine ⟨_, (accessStep_eq_vectorStep s ea s _).trans (vectorStep_vec hv _), ?_⟩
  subst hl hx
  exact State.elem_loadElement s hn h0 4 ea hk

/-- After `i` memory is that of `memState` with the `n` bytes of `v` at `a`. -/
def stores (i : Instr) (le : Bool) (r5 : Word) (a : Word) (n : Nat) (v : BitVec (8 * n)) : Bool :=
  match exec i (memState le r5) with
  | .next t => t.mem == ((memState le r5).memWrite a n v).mem
  | _ => false

theorem test_lvx : loads (.lvx 4 3 5) false 0x1F (BitVec.allOnes 128) 0xB0B1B2B3B4B5B6B7B8B9BABBBCBDBEBF = true := by decide +kernel
theorem test_lvx_le : loads (.lvx 4 3 5) true 0x1F (BitVec.allOnes 128) 0xB8B9BABBBCBDBEBFB0B1B2B3B4B5B6B7 = true := by decide +kernel
theorem test_lvxl : loads (.lvxl 4 3 5) false 7 (BitVec.allOnes 128) 0xA0A1A2A3A4A5A6A7A8A9AAABACADAEAF = true := by decide +kernel
theorem test_lvxl_le : loads (.lvxl 4 3 5) true 7 (BitVec.allOnes 128) 0xA8A9AAABACADAEAFA0A1A2A3A4A5A6A7 = true := by decide +kernel
theorem test_lvebx : ∃ t, exec (.lvebx 4 3 5) (memState false 5) = .next t ∧ elem 8 5 (t.readV 4) = 0xA5 :=
  loaded (memState false 5) 1 5 ((memState false 5).ea 1 3 5) 0xA5 (by decide) (by decide) (by decide) (by decide +kernel) (by decide +kernel) (by decide +kernel)
theorem test_lvebx_le : ∃ t, exec (.lvebx 4 3 5) (memState true 5) = .next t ∧ elem 8 10 (t.readV 4) = 0xA2 :=
  loaded (memState true 5) 1 10 ((memState true 5).ea 1 3 5) 0xA2 (by decide) (by decide) (by decide) (by decide +kernel) (by decide +kernel) (by decide +kernel)
theorem test_lvehx : ∃ t, exec (.lvehx 4 3 5) (memState false 7) = .next t ∧ elem 16 3 (t.readV 4) = 0xA6A7 :=
  loaded (memState false 7) 2 3 ((memState false 7).ea 2 3 5) 0xA6A7 (by decide) (by decide) (by decide) (by decide +kernel) (by decide +kernel) (by decide +kernel)
theorem test_lvehx_le : ∃ t, exec (.lvehx 4 3 5) (memState true 7) = .next t ∧ elem 16 4 (t.readV 4) = 0xA0A1 :=
  loaded (memState true 7) 2 4 ((memState true 7).ea 2 3 5) 0xA0A1 (by decide) (by decide) (by decide) (by decide +kernel) (by decide +kernel) (by decide +kernel)
theorem test_lvewx : ∃ t, exec (.lvewx 4 3 5) (memState false 15) = .next t ∧ elem 32 3 (t.readV 4) = 0xACADAEAF :=
  loaded (memState false 15) 4 3 ((memState false 15).ea 4 3 5) 0xACADAEAF (by decide) (by decide) (by decide) (by decide +kernel) (by decide +kernel) (by decide +kernel)
theorem test_lvewx_le : ∃ t, exec (.lvewx 4 3 5) (memState true 4) = .next t ∧ elem 32 2 (t.readV 4) = 0xA0A1A2A3 :=
  loaded (memState true 4) 4 2 ((memState true 4).ea 4 3 5) 0xA0A1A2A3 (by decide) (by decide) (by decide) (by decide +kernel) (by decide +kernel) (by decide +kernel)
theorem test_stvx : stores (.stvx 4 3 5) false 0x13 0x2010 16 0x00112233445566778899AABBCCDDEEFF = true := by decide +kernel
theorem test_stvx_le : stores (.stvx 4 3 5) true 0x13 0x2010 16 0x8899AABBCCDDEEFF0011223344556677 = true := by decide +kernel
theorem test_stvxl : stores (.stvxl 4 3 5) false 0 0x2000 16 0x00112233445566778899AABBCCDDEEFF = true := by decide +kernel
theorem test_stvxl_le : stores (.stvxl 4 3 5) true 0 0x2000 16 0x8899AABBCCDDEEFF0011223344556677 = true := by decide +kernel
theorem test_stvebx : stores (.stvebx 4 3 5) false 5 0x2005 1 0x55 = true := by decide +kernel
theorem test_stvebx_le : stores (.stvebx 4 3 5) true 5 0x2002 1 0xAA = true := by decide +kernel
theorem test_stvehx : stores (.stvehx 4 3 5) false 7 0x2006 2 0x6677 = true := by decide +kernel
theorem test_stvehx_le : stores (.stvehx 4 3 5) true 7 0x2000 2 0x8899 = true := by decide +kernel
theorem test_stvewx : stores (.stvewx 4 3 5) false 10 0x2008 4 0x8899AABB = true := by decide +kernel
theorem test_stvewx_le : stores (.stvewx 4 3 5) true 10 0x200C 4 0x44556677 = true := by decide +kernel
theorem test_lvsl : loads (.lvsl 4 3 5) true 7 (BitVec.allOnes 128) 0x0708090A0B0C0D0E0F10111213141516 = true := by decide +kernel
theorem test_lvsr : loads (.lvsr 4 3 5) false 3 (BitVec.allOnes 128) 0x0D0E0F101112131415161718191A1B1C = true := by decide +kernel
/-- 95_test_vectors.md 2.2: the sum wraps modulo 2^32. -/
theorem test_lvx_wraps : (match exec (.lvx 4 3 5) ((memState false 0x2018).writeG 3 0xFFFFFFF8) with
    | .next t => t.readV 4 == 0xB0B1B2B3B4B5B6B7B8B9BABBBCBDBEBF
    | _ => false) = true := by decide +kernel

/-! ## VSCR and VRSAVE (95_test_vectors.md 2.7) -/

theorem test_mtvscr : (match exec (.mtvscr 1) (ready 0xFFFFFFFFFFFFFFFFFFFFFFFF00010000 0 0) with
    | .next t => t.vscr == 0x00010000 && t.pc == 0x1004
    | _ => false) = true := by decide +kernel

/-- Read VSCR: NJ and SAT, whether or not Java mode is implemented. -/
theorem test_mfvscr : ∃ t, exec (.mfvscr 7) { ready 1 2 3 with vscr := 0x00010001 } = .next t ∧
    t.readV 7 = 0x00000000000000000000000000010001 := by
  have h : (({ ready 1 2 3 with vscr := 0x00010001 } : State).vscrValue) = 0x00010001 := by
    unfold State.vscrValue; split <;> rfl
  refine ⟨_, rfl, ?_⟩
  generalize ({ ready 1 2 3 with vscr := 0x00010001 } : State) = s at h
  show ((s.writeV 7 (s.vscrImage.setWidth 128)).drawn.advance).readV 7 = _
  have h0 : (0x00010001 : Word) &&& vscrReserved = 0 := by decide
  have h1 : s.vscrImage = 0x00010001 := by
    rw [State.vscrImage, h, h0, show (0 : Word) &&& s.undefWord = 0 from BitVec.zero_and]; decide
  rw [h1]
  exact State.readV_writeV_self s 7 _

theorem test_mfspr_vrsave : (match execBase (.mfsprVrsave 3) { State.reset with vrsave := 0xC0000001, pc := 0x1000 } with
    | .next t => t.readG 3 == 0xC0000001 && t.pc == 0x1004
    | _ => false) = true := by decide +kernel
theorem test_mtspr_vrsave_user : (match execBase (.mtsprVrsave 4) (({ State.reset with msr := 0x4000 } : State).writeG 4 0xFFFF0000) with
    | .next t => t.vrsave == 0xFFFF0000 && t.msr == 0x4000
    | _ => false) = true := by decide +kernel

/-! ## Data streams (46_data_stream.md R491 to R507; 95_test_vectors.md 2.8) -/

/-- A state with MSR[VEC] = 0, GPR3 = 0x2000 and the descriptor in GPR4: size 2, count 16, stride 64. -/
def streamState : State := (State.reset.writeG 3 0x2000).writeG 4 0x02100040

/-- The slot `k` after `i`. -/
def slotAfter (i : Instr) (s : State) (k : StreamId) : Option Stream :=
  match exec i s with
  | .next t => t.streams.get k
  | _ => none

theorem test_dst : slotAfter (.dst 0 3 4) streamState 0 = some ⟨0x2000, 2, 16, 64, false, .load, false, 0⟩ := by decide +kernel
theorem test_dstt : slotAfter (.dstt 2 3 4) streamState 2 = some ⟨0x2000, 2, 16, 64, true, .load, false, 0⟩ := by decide +kernel
theorem test_dstst : slotAfter (.dstst 1 3 4) streamState 1 = some ⟨0x2000, 2, 16, 64, false, .store, false, 0⟩ := by decide +kernel
theorem test_dststt : slotAfter (.dststt 3 3 4) streamState 3 = some ⟨0x2000, 2, 16, 64, true, .store, false, 0⟩ := by decide +kernel
/-- 46_data_stream.md R491: zero fields stand for 32, 256 and 32768. -/
theorem test_dst_zero_fields : slotAfter (.dst 0 3 5) streamState 0 = some ⟨0x2000, 32, 256, 32768, false, .load, false, 0⟩ := by
  decide +kernel
/-- 46_data_stream.md R493: rA field 0, executed as a no-op (D20). -/
theorem test_dst_rA0 : slotAfter (.dst 0 0 4) streamState 0 = none := by decide +kernel
theorem test_dss : slotAfter (.dss 1) (streamState.touch .load false 1 3 4) 1 = none := by decide +kernel
theorem test_dssall : slotAfter .dssall (streamState.touch .load false 3 3 4) 3 = none := by decide +kernel

/-- The six blocks of the example of 46_data_stream.md R502: size 2, count 6, stride +64 from 0x10008. -/
theorem test_stream_blocks : (makeStream .load false false 0x00010008 0x02060040).blockAddrs =
    [0x10008, 0x10048, 0x10088, 0x100C8, 0x10108, 0x10148] := by decide +kernel
/-- The block at 0x10008 covers 32 bytes, which fall into two cache blocks of 32 bytes or one of 64 (46_data_stream.md R495). -/
theorem test_stream_covers : let st := makeStream .load false false 0x00010008 0x02060040
    st.covers 0x10027 = true ∧ st.covers 0x10028 = false ∧ st.covers 0x10007 = false ∧ st.covers 0x10167 = true ∧
      st.cacheBlocksFetched 32 0x10008 = 2 ∧ st.cacheBlocksFetched 64 0x10008 = 1 := by decide +kernel
/-- A stream completes with its last unit (46_data_stream.md R494). -/
theorem test_stream_completes : ((makeStream .load false false 0x00010008 0x02060040).prefetched 5).isSome = true ∧
    (makeStream .load false false 0x00010008 0x02060040).prefetched 6 = none := by decide +kernel

/-! ## Exceptions and the step (95_test_vectors.md 2.9, 60_exceptions.md R517, R532) -/

/-- One step of the word from a state with this MSR, pc 0x1000 and the word where it is fetched. -/
def entry (msr : Word) (w : Nat) (srr1 msr' pc' : Word) : Bool :=
  match step (({ State.reset with msr := msr, pc := 0x1000 } : State).withFetchWord 32 w) with
  | .next t => t.srr0 == 0x1000 && t.srr1 == srr1 && t.msr == msr' && t.pc == pc' && t.vr == State.reset.vr
  | _ => false

theorem test_unavailable_1 : entry 0x0000D032 0x10811000 0x0000D032 0x00001000 0x00000F20 = true := by decide +kernel
theorem test_unavailable_2 : entry 0x0001D072 0x10811000 0x0000D072 0x00011041 0xFFF00F20 = true := by decide +kernel
theorem test_unavailable_little_endian : entry 0x0000C031 0x108110EB 0x0000C031 0 0x00000F20 = true := by decide +kernel
theorem test_unavailable_mfvscr : entry 0x00001032 0x10800604 0x00001032 0x00001000 0x00000F20 = true := by decide +kernel
theorem test_illegal_word : entry 0x02001032 0x10000001 0x02081032 0x00001000 0x00000700 = true := by decide +kernel
theorem test_illegal_word_no_vec : entry 0x00001032 0x10000001 0x00081032 0x00001000 0x00000700 = true := by decide +kernel
theorem test_rfi_user : entry 0x00004000 0x4C000064 0x00044000 0 0x00000700 = true := by decide +kernel
theorem test_rfi : (match execBase .rfi { State.reset with msr := 0x1000, srr0 := 0x1003, srr1 := 0x7A00D032, pc := 0xF20 } with
    | .next t => t.msr == 0x0200D032 && t.pc == 0x1000 && t.srr0 == 0x1003 && t.srr1 == 0x7A00D032
    | _ => false) = true := by decide +kernel
theorem test_refused_reserved : (match step (State.reset.withFetchWord 32 0x1081110A) with
    | .refused r => r == .reservedField
    | _ => false) = true := by decide +kernel
theorem test_refused_outside : (match step (State.reset.withFetchWord 32 0x38600001) with
    | .refused r => r == .outsideSpec
    | _ => false) = true := by decide +kernel
/-- withFetchWord places the word where the first step after reset fetches it: here `mfspr r3,256`. -/
theorem test_step_first : (match step (({ State.reset with vrsave := 0x12345678 } : State).withFetchWord 32 0x7C6042A6) with
    | .next t => t.readG 3 == 0x12345678 && t.pc == 0xFFF00104
    | _ => false) = true := by decide +kernel

/-! ## Witnesses: for each statement with hypotheses, a state and operands that meet them all -/

/-- The state of the witnesses: AltiVec available, memory not empty, NJ and SAT set. -/
def witness : State := { memState false 0x1F with vscr := 0x00010001 }

theorem witness_nj : witness.nj = true := by
  unfold State.nj State.vscrValue; split <;> rfl

theorem witness_QuadWordLoads : witness.vec = true := by decide
theorem witness_ElementLoads : witness.vec = true := by decide
theorem witness_AlignmentControls : witness.vec = true := by decide
theorem witness_AddSubtractModulo : witness.vec = true := by decide
theorem witness_AddSubtractSaturate : witness.vec = true := by decide
theorem witness_MaximumMinimum : witness.vec = true := by decide
theorem witness_Averages : witness.vec = true := by decide
theorem witness_MultiplyEvenOdd : witness.vec = true := by decide
theorem witness_MultiplyAdd : witness.vec = true := by decide
theorem witness_MultiplySum : witness.vec = true := by decide
theorem witness_SumAcross : witness.vec = true := by decide
theorem witness_IntegerCompares : witness.vec = true := by decide
theorem witness_LogicalOperations : witness.vec = true := by decide
theorem witness_RotatesAndShifts : witness.vec = true := by decide
theorem witness_Packs : witness.vec = true := by decide
theorem witness_Unpacks : witness.vec = true := by decide
theorem witness_Merges : witness.vec = true := by decide
theorem witness_Splats : witness.vec = true := by decide
theorem witness_SelectAndPermute : witness.vec = true := by decide
theorem witness_FloatArithmetic : witness.vec = true := by decide
theorem witness_FloatCompares : witness.vec = true := by decide
theorem witness_RoundingsAndConversionsToFloat : witness.vec = true := by decide
theorem witness_ConversionsToInteger : witness.vec = true := by decide
theorem witness_VscrMoves : witness.vec = true := by decide

theorem witness_DecodeOfEncode : (Instr.dststt 3 31 31).wf = true ∧ Instr.dssall.wf = true := by decide
theorem witness_EncodeOfDecode : decodeWord 0x108110EB = .instr (.vperm 4 1 2 3) ∧ Instr.vperm 4 1 2 3 ≠ .dssall := by decide +kernel

/-- The four bytes that the statements about a step decode. -/
def fetched (s : State) : List Byte :=
  let a : Word := if s.le then s.pc ^^^ 4 else s.pc
  [s.byte a, s.byte (a + 1), s.byte (a + 2), s.byte (a + 3)]

theorem witness_StepRunsTheDecodedInstruction : decode (fetched (witness.withFetchWord 32 0x108110EB)) = .instr (.vperm 4 1 2 3) ∧
    ∃ t, exec (.vperm 4 1 2 3) (witness.withFetchWord 32 0x108110EB) = .next t := ⟨by decide +kernel, ⟨_, rfl⟩⟩
theorem witness_StepRunsTheDecodedInstruction_little_endian :
    ((memState true 0).withFetchWord 32 0x7E00066C).le = true ∧
      decode (fetched ((memState true 0).withFetchWord 32 0x7E00066C)) = .instr .dssall := by
  decide +kernel

/-- The first step of program P2 of 95_test_vectors.md, `mtspr 256,r7` at 0x1000, with a word outside the spec behind it. -/
def launched : State :=
  let s := (({ State.reset with msr := 0x02000000, pc := 0x1004 } : State).writeG 7 0xFF800000).withFetchWord 32 0x38600001
  { s with pc := 0x1000 }.withFetchWord 32 0x7CE043A6

/-- R582: the run takes the step and ends normally at P_STOP_PC, before the fetch of the word there, with steps to spare or none. -/
theorem test_run_ends_at_stop : ∀ n ∈ [1, 3], (match launched.run 0x1004 n with
    | .normal t => t.pc == 0x1004 && t.vrsave == 0xFF800000
    | _ => false) = true := by decide +kernel
theorem witness_StepRunsTheDecodedInstruction_run : launched.pc ≠ 0x1004 ∧ launched.run launched.pc 0 = .normal launched ∧
    (match launched.run 0x1008 1 with | .bound t => t.pc == 0x1004 | _ => false) = true := by
  exact ⟨by decide +kernel, State.run_at_stop _ _, by decide +kernel⟩
theorem witness_StepOfOtherWords_run : launched.pc ≠ 0x1008 ∧ (match launched.run 0x1008 3 with
    | .refused .outsideSpec t => t.pc == 0x1004 && t.vrsave == 0xFF800000
    | _ => false) = true := by decide +kernel
theorem witness_StepOfOtherWords_base : decode (fetched (witness.withFetchWord 32 0x4C000064)) = .base .rfi := by decide +kernel
theorem witness_StepOfOtherWords_illegal : decode (fetched (witness.withFetchWord 32 0x1000003F)) = .illegal := by decide +kernel
theorem witness_StepOfOtherWords_reserved : decode (fetched (witness.withFetchWord 32 0x1081110A)) = .rejected .reservedField := by
  decide +kernel
theorem witness_StepOfOtherWords_outside : decode (fetched (witness.withFetchWord 32 0xFFFFFFFF)) = .rejected .outsideSpec := by
  decide +kernel

/-- A state within the invariant: memory, a stream and an instruction to run. -/
def running : State := (streamState.touch .load false 1 3 4).withFetchWord 32 0x108110EB

theorem witness_StepKeepsTheInvariant : running.Inv ∧ ∃ t, step running = .next t := by
  refine ⟨⟨by decide +kernel, by decide +kernel, ?_⟩, ?_⟩
  · intro k st h
    have hn : ∀ j : StreamId, j ≠ 1 → running.streams.get j = none := by decide +kernel
    have h1 : running.streams.get 1 = some ⟨0x2000, 2, 16, 64, false, .load, false, 0⟩ := by decide +kernel
    by_cases hk : k = 1
    · subst hk
      cases h1.symm.trans h
      exact ⟨by decide, by decide, by decide, by decide, by decide, by decide, by decide, by decide⟩
    · cases (hn k hk).symm.trans h
  · have hd : decodeWord running.fetchWord = .instr (.vperm 4 1 2 3) := by decide +kernel
    refine ⟨running.takeUnavailable.prefetch, step_of_execDecoded ?_⟩
    rw [hd]
    simp only [execDecoded, exec, execVperm]
    exact vectorStep_unavailable (s := running) (by decide +kernel) _

theorem witness_EveryInstructionCompletes : witness.vec = true ∧ isStream (.dss 1) = true := by decide
theorem witness_ExecKeepsTheOtherRegisters : (∃ t, exec (.vand 4 1 2) witness = .next t) ∧ isRecordCompare (.vcmpequb 4 1 2 false) = false ∧
    storesMemory (.vand 4 1 2) = false := ⟨⟨_, rfl⟩, by decide⟩
theorem witness_SaturationIsSticky : (∀ vB, Instr.vaddubs 4 1 2 ≠ .mtvscr vB) ∧ (∃ t, exec (.vaddubs 4 1 2) { witness with vscr := 1 } = .next t) ∧
    ({ witness with vscr := 1 } : State).sat = true := by
  refine ⟨fun _ h => (by cases h), ⟨_, rfl⟩, ?_⟩
  rw [State.sat_eq]
  decide
theorem witness_SaturationIsSticky_kept : (∀ vB, Instr.vaddubm 4 1 2 ≠ .mtvscr vB) ∧ (∃ t, exec (.vaddubm 4 1 2) witness = .next t) ∧
    saturates (.vaddubm 4 1 2) = false := ⟨fun _ h => (by cases h), ⟨_, rfl⟩, by decide⟩
theorem witness_UnavailableSavesTheStatus : isStream (.lvx 1 0 3) = false ∧ streamState.vec = false := by decide
theorem witness_UnavailableEntry : isStream .dssall = true ∧ isStream (.mfvscr 7) = false ∧
    ({ streamState with msr := 0xFDFFFFFF } : State).vec = false := by decide
theorem unavailable_vand : exec (.vand 4 1 2) streamState = .next streamState.takeUnavailable := by
  simp only [exec, execVand]
  exact vectorStep_unavailable (s := streamState) (by decide) _

theorem witness_EntryThenReturn : isStream (.vand 4 1 2) = false ∧ streamState.vec = false ∧ ∃ t, exec (.vand 4 1 2) streamState = .next t :=
  ⟨by decide, by decide, ⟨_, unavailable_vand⟩⟩
theorem witness_StreamsAreSuspendedByAnException : isStream (.vand 4 1 2) = false ∧ streamState.vec = false ∧
    ({ streamState with msr := 0x00004000 } : State).pr = true := by decide
/-- A user-level stream with translation on: enabled, suspended by an entry, and enabled again after the return. -/
theorem witness_StreamsAreSuspendedByAnException_enabled :
    let s := ({ streamState with msr := 0x00004010 } : State).touch .load false 1 3 4
    s.streamEnabled 1 = true ∧ s.takeUnavailable.streamEnabled 1 = false ∧ s.takeUnavailable.returnFromException.streamEnabled 1 = true := by
  decide +kernel
/-- Slots that hold an enabled stream, a suspended one and none. -/
theorem witness_PrefetchEngine :
    let s := ({ ({ streamState with msr := 0x00000010 } : State).touch .load false 1 3 4 with msr := 0x00004010 } : State).touch .store true 2 3 4
    s.streamEnabled 1 = false ∧ s.streamEnabled 2 = true ∧ s.streams.get 0 = none := by decide +kernel
theorem witness_ReturnFromException : State.reset.pr = false ∧ ({ State.reset with msr := 0x00004000 } : State).pr = true := by decide
theorem witness_VrsaveMoves : (4 : GReg) ≠ 3 := by decide
theorem witness_QuadWordStores : witness.vec = true ∧ Memory.wf witness.mem = true := by decide +kernel
theorem witness_ElementStores : witness.vec = true ∧ Memory.wf witness.mem = true := by decide +kernel
theorem witness_ElementAccessAgreesWithQuadWord : witness.vec = true ∧ Memory.wf witness.mem = true := by decide +kernel
/-- All bytes of vB name the same shift, here the largest. -/
theorem witness_LongShifts : witness.vec = true ∧ (∀ j, j < 16 → (elem 8 j ((witness.writeV 2 0x0707070707070707070707070F070F07).readV 2)).toNat % 8 =
    (elem 8 15 ((witness.writeV 2 0x0707070707070707070707070F070F07).readV 2)).toNat % 8) := by decide +kernel
/-- A tie: 2^24 + 1 lies halfway between 2^24 and 2^24 + 2. -/
theorem witness_RoundingIsToNearestEven : 16777217 < (2 ^ 25 - 1) * 2 ^ 252 * 1 ∧ fpFinite 0x01000001 = true ∧
    ((16777217 : Int) - fpMag (roundNear false false false 16777217 1) * 1).natAbs = ((16777217 : Int) - fpMag 0x01000001 * 1).natAbs ∧
    fpMag 0x01000001 ≠ fpMag (roundNear false false false 16777217 1) := by decide +kernel
/-- The least value that overflows; just below it rounding gives the largest finite number. -/
theorem witness_RoundingIsToNearestEven_overflow : roundNear false false true ((2 ^ 25 - 1) * 2 ^ 252) 1 = 0xFF800000 ∧
    roundNear false false true ((2 ^ 25 - 1) * 2 ^ 252 - 1) 1 = 0xFF7FFFFF := by decide +kernel
/-- A value in the window of 43_float.md R395: above the largest denormalized number and below 2^-126. -/
theorem witness_RoundingKeepsWhatFits_window : 0 < 16777215 ∧ 16777215 < 8388608 * 2 ∧ roundNear true false true 16777215 2 = 0x80000000 ∧
    roundNear false false true 16777215 2 = 0x80800000 := by decide +kernel
theorem witness_RoundingKeepsWhatFits : fpFinite 0x80000001 = true ∧ fpIsZero 0x80000001 = false := by decide
theorem witness_FloatSumsAndDifferences_NaN : fpIsNaN (flushIn true 0x7FA00001) = true ∧ fpIsNaN (flushIn true 0x007FFFFF) = false := by decide
theorem witness_FloatSumsAndDifferences_infinities : fpIsInf (flushIn false 0x7F800000) = true ∧ fpIsInf (flushIn false 0xFF800000) = true ∧
    fpSign (flushIn false 0x7F800000) ≠ fpSign (flushIn false 0xFF800000) ∧ fpFinite (flushIn false 0x7F7FFFFF) = true := by decide
theorem witness_FloatSumsAndDifferences_finite : fpFinite (flushIn true 0x7F7FFFFF) = true ∧ fpFinite (flushIn true 0x80000001) = true := by decide
theorem witness_FloatSumsAndDifferences_NaN_difference : fpIsNaN 0x7FA00001 = true ∧ fpSub true 0x7FA00001 0xFFC12345 = 0x7FE00001 ∧
    fpIsNaN 0x7F800000 = false ∧ fpIsNaN 0xFFC12345 = true := by decide +kernel
/-- The examples of 41_int_arith.md R223 to R225. -/
theorem witness_SaturatingConversions : satUnsigned 8 255 = (0xFF, false) ∧ satUnsigned 8 256 = (0xFF, true) ∧ satUnsigned 8 (-1) = (0, true) ∧
    satUnsigned 8 0 = (0, false) ∧ satSigned 8 128 = (0x7F, true) ∧ satSigned 8 (-129) = (0x80, true) ∧
    satSigned 8 (-128) = (0x80, false) ∧ satSigned 8 127 = (0x7F, false) := by decide
theorem witness_SaturatingConversions_accumulator : 128 % 32 = 0 ∧ (buildSat 32 fun k => satUnsigned 32 (2 ^ 32 - 4 + k)).2 = false ∧
    (buildSat 32 fun k => satUnsigned 32 (2 ^ 32 - 3 + k)).2 = true := by decide
theorem witness_FusedMultiplyAdd_finite : fpFinite (flushIn false 0x7F7FFFFF) = true ∧ fpFinite (flushIn false 0x80000000) = true ∧
    fpFinite (flushIn false 0x00000001) = true := by decide
theorem witness_FusedMultiplyAdd_invalid : fpIsNaN (flushIn true 0) = false ∧ fpIsInf (flushIn true 0xFF800000) = true ∧
    fpIsZero (flushIn true 0x00000001) = true := by decide
theorem witness_FusedMultiplyAdd_infinite_product : fpIsNaN (flushIn true 0xFF800000) = false ∧ fpIsNaN (flushIn true 0x00800000) = false ∧
    fpIsInf (flushIn true 0xFF800000) = true ∧ fpIsZero (flushIn true 0x00800000) = false ∧ fpIsZero (flushIn true 0xFF800000) = false := by decide
theorem witness_FusedMultiplyAdd_infinite_addend : fpFinite (flushIn false 0x7F7FFFFF) = true ∧ fpFinite (flushIn false 0) = true ∧
    fpIsInf (flushIn false 0xFF800000) = true := by decide
theorem witness_FusedMultiplyAdd_NaN : fpIsNaN (flushIn true 0x7F800001) = true := by decide
/-- -(1 * 3 - 2) is -1. -/
theorem witness_NegativeMultiplySubtract : fpIsNaN 0x3F800000 = false ∧ fpIsNaN 0x40000000 = false ∧ fpIsNaN 0x40400000 = false ∧
    fpIsZero (fpNegMulSub false 0x3F800000 0x40000000 0x40400000) = false := by decide +kernel
/-- Exact zeros of different sign, and a flushed one. -/
theorem witness_NegativeMultiplySubtract_zero : fpIsZero (fpNegMulSub false 0x3F800000 0x3F800000 0x3F800000) = true ∧
    fpIsZero (fpNegMulSub true 0x00800000 0 0x3F000000) = true := by decide +kernel
theorem witness_FloatMaximumMinimum : fpIsNaN (flushIn false 0x80000000) = false ∧ fpIsZero (flushIn false 0x80000000) = true ∧
    fpIsZero (flushIn true 0x00000001) = true ∧ fpIsNaN (flushIn false 0x7F800001) = true := by decide
/-- Ties: 0.5 and 2.5 (43_float.md R385). -/
theorem witness_RoundedIntegers_tie : 2 * (fpVal 0x3F000000 - fpVal (fpRoundInt .nearest false 0x3F000000)).natAbs = 2 ^ 149 ∧
    fpRoundInt .nearest false 0x40200000 = 0x40000000 := by decide +kernel
theorem witness_RoundedIntegers : fpFinite (flushIn false 0x7F7FFFFF) = true ∧ fpIsNaN (flushIn false 0xFFC12345) = true ∧
    fpIsInf (flushIn false 0xFF800000) = true := by decide

/-- What an estimate gives is permitted, whatever the free value is, where the default is. -/
theorem estimate_permitted (p : Word → Bool) (c d : Word) (hd : p d = true) : p (estimate p c d) = true := by
  unfold estimate
  split <;> assumption

/-- An element of the witnesses for the estimates: AltiVec available, NJ = 1 and vB = VR2 given. -/
def estimateState (b : Quad) : State := { ready 0 b 0 with vscr := 0x00010000 }

theorem estimateState_nj (b : Quad) : (estimateState b).nj = true := by
  have h : (estimateState b).vscr = 0x00010000 := rfl
  unfold State.nj State.vscrValue
  rw [h]
  split <;> rfl

/-- NaN, infinity, zero and a finite number; a denormalized one is a zero under NJ = 1. -/
theorem witness_ReciprocalEstimate : (estimateState 0x7FA00001FF800000800000013F800000).vec = true ∧ fpIsNaN (flushIn true 0x7FA00001) = true ∧
    fpIsInf (flushIn true 0xFF800000) = true ∧ fpIsZero (flushIn true 0x80000001) = true ∧ fpFinite (flushIn true 0x3F800000) = true ∧
    fpIsZero (flushIn true 0x3F800000) = false := by decide +kernel

set_option exponentiation.threshold 300 in
/-- For 1.0 the estimate is finite and no zero, whatever the free value. -/
theorem witness_ReciprocalEstimate_result (draw : Nat) : fpFinite (recipEstimate draw 3 true 0x3F800000) = true ∧
    fpIsZero (recipEstimate draw 3 true 0x3F800000) = false := by
  have h := estimate_permitted (recipPermitted true 0x3F800000) (Config.estRecip draw 3 0x3F800000 true)
    (roundNear true false (fpSign 0x3F800000) (2 ^ 298) (fpMag 0x3F800000)) (by decide +kernel)
  have he : recipEstimate draw 3 true 0x3F800000 = estimate (recipPermitted true 0x3F800000) (Config.estRecip draw 3 0x3F800000 true)
    (roundNear true false (fpSign 0x3F800000) (2 ^ 298) (fpMag 0x3F800000)) := by
    unfold recipEstimate
    have hf : flushIn true 0x3F800000 = 0x3F800000 := by decide
    have h1 : fpIsNaN 0x3F800000 = false := by decide
    have h2 : fpIsInf 0x3F800000 = false := by decide
    have h3 : fpIsZero 0x3F800000 = false := by decide
    simp only [hf, h1, h2, h3, Bool.false_eq_true, if_false]
  rw [he]
  revert h
  generalize estimate (recipPermitted true 0x3F800000) _ _ = y
  intro h
  have hm : fpMag 0x3F800000 = 8388608 * 2 ^ 126 := by decide +kernel
  unfold recipPermitted at h
  rw [hm] at h
  have hi : fpIsInf y = false := by
    cases hy : fpIsInf y
    · rfl
    · simp [hy] at h
  have hz : fpIsZero y = false := by
    cases hy : fpIsZero y
    · rfl
    · simp [hy, hi] at h
  refine ⟨?_, hz⟩
  have hn : fpIsNaN y = false := by
    cases hy : fpIsNaN y
    · rfl
    · simp [hy] at h
  unfold fpIsInf at hi
  unfold fpIsNaN at hn
  unfold fpFinite
  cases he : fpExp y == 255
  · simp [bne, he]
  · cases hf : fpFrac y == 0 <;> simp_all [bne]

/-- An infinite estimate is permitted at 2097664 * 2^-149 and not at the next number; a zero only with NJ = 1, and beyond 2^126. -/
theorem witness_ReciprocalEstimate_bounds : recipPermitted false 0x00200200 0x7F800000 = true ∧ recipPermitted false 0x00200201 0x7F800000 = false ∧
    recipPermitted true 0x7F000000 0 = true ∧ recipPermitted false 0x7F000000 0 = false ∧ recipPermitted true 0x7E7F0000 0 = false := by
  decide +kernel

/-- NaN, a negative number, zero and infinity; then a finite positive number. -/
theorem witness_ReciprocalSquareRootEstimate : (estimateState 0x7FA00001BF800000000000007F800000).vec = true ∧
    fpIsNaN (flushIn true 0x7FA00001) = true ∧ fpIsNaN (flushIn true 0xBF800000) = false ∧ fpIsZero (flushIn true 0xBF800000) = false ∧
    fpSign (flushIn true 0xBF800000) = true ∧ fpIsZero (flushIn true 0) = true ∧ fpIsInf (flushIn true 0x7F800000) = true ∧
    fpSign (flushIn true 0x7F800000) = false ∧ fpFinite (flushIn false 0x00000001) = true ∧ fpIsZero (flushIn false 0x00000001) = false ∧
    fpSign (flushIn false 0x00000001) = false := by decide +kernel

/-- NaN, infinity, zero and the integer -126; then 127, 128, the number below -150 and the number below -126. -/
theorem witness_Exp2Estimate : (estimateState 0x7FA00001FF80000080000001C2FC0000).vec = true ∧
    fpIsNaN (flushIn true 0x7FA00001) = true ∧ fpIsInf (flushIn true 0xFF800000) = true ∧ fpIsZero (flushIn true 0x80000001) = true ∧
    fpFinite (flushIn true 0xC2FC0000) = true ∧ fpIsZero (flushIn true 0xC2FC0000) = false ∧
    fpVal (flushIn true 0xC2FC0000) = (-126) * 2 ^ 149 := by decide +kernel
/-- Between two integers: 2.5, and -126.5; the least integral power that is a denormalized number, -149, with NJ = 0. -/
theorem witness_Exp2Estimate_brackets : 2 * 2 ^ 149 < fpVal (flushIn true 0x40200000) ∧ fpVal (flushIn true 0x40200000) < (2 + 1) * 2 ^ 149 ∧
    (-127) * 2 ^ 149 < fpVal 0xC2FD0000 ∧ fpVal 0xC2FD0000 < ((-127) + 1) * 2 ^ 149 ∧ fpVal 0xC3150000 = (-149) * 2 ^ 149 := by decide +kernel
/-- Within the end intervals of the brackets: -145.6875, -146.5 and -149.5, and with NJ = 1 -124.5 and -125.5. -/
theorem witness_Exp2Estimate_ranges : (-146) * 2 ^ 149 < fpVal 0xC311B000 ∧ fpVal 0xC311B000 < ((-146) + 1) * 2 ^ 149 ∧
    (-147) * 2 ^ 149 < fpVal 0xC3128000 ∧ fpVal 0xC3128000 < ((-147) + 1) * 2 ^ 149 ∧
    (-150) * 2 ^ 149 < fpVal 0xC3158000 ∧ fpVal 0xC3158000 < ((-150) + 1) * 2 ^ 149 ∧
    (-125) * 2 ^ 149 < fpVal (flushIn true 0xC2F90000) ∧ fpVal (flushIn true 0xC2F90000) < ((-125) + 1) * 2 ^ 149 ∧
    (-126) * 2 ^ 149 < fpVal (flushIn true 0xC2FB0000) ∧ fpVal (flushIn true 0xC2FB0000) < ((-126) + 1) * 2 ^ 149 := by decide +kernel
theorem witness_Exp2Estimate_bounds : fpVal (flushIn true 0x42FE0000) = 127 * 2 ^ 149 ∧ 128 * 2 ^ 149 ≤ fpVal (flushIn true 0x43000000) ∧
    fpVal (flushIn true 0xC3160001) < -150 * 2 ^ 149 ∧ fpVal (flushIn true 0xC2FC0001) < -126 * 2 ^ 149 := by decide +kernel

theorem witness_Log2Estimate : (estimateState 0x7FA00001BF800000000000007F800000).vec = true ∧
    fpIsNaN (flushIn true 0x7FA00001) = true ∧ fpIsNaN (flushIn true 0xBF800000) = false ∧ fpIsZero (flushIn true 0xBF800000) = false ∧
    fpSign (flushIn true 0xBF800000) = true ∧ fpIsZero (flushIn true 0) = true ∧ fpIsInf (flushIn true 0x7F800000) = true ∧
    fpSign (flushIn true 0x7F800000) = false ∧ fpFinite (flushIn true 0x00800000) = true ∧ fpIsZero (flushIn true 0x00800000) = false ∧
    fpSign (flushIn true 0x00800000) = false := by decide +kernel

/-- 2^0 is 2^149 units, and the smallest denormalized number is one. -/
theorem witness_Log2Estimate_brackets : fpMag 0x3F800000 = 2 ^ 149 ∧ fpMag 0x00000001 = 2 ^ 0 ∧ 2 ^ 149 ≤ fpMag 0x3FFFFFFF ∧
    fpMag 0x3FFFFFFF < 2 ^ (149 + 1) := by decide +kernel

/-- With rA field 0 and not 0, and a descriptor of zeros, whose fields stand for 32, 256 and 32768. -/
theorem witness_StreamTouches : (0 : GReg) = 0 ∧ (3 : GReg) ≠ 0 ∧ streamState.readG 5 = 0 ∧ (1 : StreamId) ≠ 0 := by decide
theorem witness_StreamStops : (3 : StreamId) ≠ 1 := by decide

end Sys2Proof.Tests
end

/-! # What every instruction and every step keeps (10_state.md)

`InstrEffect` lists the ways in which an instruction of the table changes the state before pc moves on, and `exec_effect` says that
there are no others. The statements about all instructions are then read off from that list. -/
section
namespace Sys2Proof.Machine

/-! ## The effects an instruction can have -/

/-- `InstrEffect i s t`: the own effect of `i`, before pc moves on, may leave `t` where it found `s`. -/
inductive InstrEffect (i : Instr) (s : State) : State → Prop where
  /-- vD alone is written. -/
  | vector (vD : VReg) (q : Quad) : InstrEffect i s (s.writeV vD q)
  /-- vD is written, with a value that takes a draw. -/
  | drawnVector (vD : VReg) (q : Quad) : InstrEffect i s (s.writeV vD q).drawn
  /-- vD is written, and SAT where an element saturated (10_state.md R47). -/
  | saturating (h : saturates i = true) (vD : VReg) (d : Quad × Bool) : InstrEffect i s (s.writeSat vD d)
  /-- vD is written, and with Rc = 1 CR field 6 (42_int_cmp_logic_shift.md R301). -/
  | compare {rc : Bool} (h : isRecordCompare i = rc) (vD : VReg) (d : Quad) : InstrEffect i s (s.writeCompare vD rc d)
  /-- The same for the bounds compare (43_float.md R378). -/
  | bounds {rc : Bool} (h : isRecordCompare i = rc) (vD : VReg) (d : Quad) : InstrEffect i s (s.writeBounds vD rc d)
  /-- An element is stored. -/
  | storeElement (h : storesMemory i = true) (n : Nat) (vS : VReg) (ea : Word) : InstrEffect i s (s.storeElement n vS ea)
  /-- A quad word is stored. -/
  | storeQuad (h : storesMemory i = true) (ea : Word) (q : Quad) : InstrEffect i s (s.storeQuad ea q)
  /-- mtvscr: VSCR is replaced (45_vscr_control.md R481). -/
  | moveToVscr {vB : VReg} (h : i = .mtvscr vB) (w : Word) : InstrEffect i s { s with vscr := w }
  /-- A stream is started (46_data_stream.md R492). -/
  | touch (kind : StreamKind) (transient : Bool) (strm : StreamId) (rA rB : GReg) :
      InstrEffect i s (s.touch kind transient strm rA rB)
  /-- A stream is stopped (46_data_stream.md R506). -/
  | stop (strm : StreamId) : InstrEffect i s (s.stopStream strm)
  /-- All streams are stopped (46_data_stream.md R507). -/
  | stopAll : InstrEffect i s s.stopAllStreams

/-- Where the operands decide between two effects, either is one. -/
theorem InstrEffect.ite {i : Instr} {s t u : State} {p : Prop} [Decidable p] (ht : InstrEffect i s t)
    (hu : InstrEffect i s u) : InstrEffect i s (if p then t else u) := by
  split
  · exact ht
  · exact hu

/-- Every instruction has one of these effects. A stream instruction has it in any state; any other has it within the frame that
checks MSR[VEC] (60_exceptions.md R512, 46_data_stream.md R492). -/
theorem exec_effect (i : Instr) (s : State) : ∃ t, InstrEffect i s t ∧
    ((isStream i = true ∧ exec i s = .next t.advance) ∨ (isStream i = false ∧ exec i s = vectorStep s t)) := by
  cases i with
  | dst | dstt | dstst | dststt => exact ⟨_, .touch _ _ _ _ _, .inl ⟨rfl, rfl⟩⟩
  | dss => exact ⟨_, .stop _, .inl ⟨rfl, rfl⟩⟩
  | dssall => exact ⟨_, .stopAll, .inl ⟨rfl, rfl⟩⟩
  | lvebx | lvehx | lvewx => exact ⟨_, .drawnVector _ _, .inr ⟨rfl, accessStep_eq_vectorStep _ _ _ _⟩⟩
  | lvx | lvxl => exact ⟨_, .vector _ _, .inr ⟨rfl, accessStep_eq_vectorStep _ _ _ _⟩⟩
  | stvebx | stvehx | stvewx => exact ⟨_, .storeElement rfl _ _ _, .inr ⟨rfl, accessStep_eq_vectorStep _ _ _ _⟩⟩
  | stvx | stvxl => exact ⟨_, .storeQuad rfl _ _, .inr ⟨rfl, accessStep_eq_vectorStep _ _ _ _⟩⟩
  | vaddubs | vadduhs | vadduws | vaddsbs | vaddshs | vaddsws | vsububs | vsubuhs | vsubuws | vsubsbs | vsubshs | vsubsws
  | vmhaddshs | vmhraddshs | vmsumuhs | vmsumshs | vsumsws | vsum2sws | vsum4sbs | vsum4shs | vsum4ubs
  | vpkuhus | vpkuwus | vpkshus | vpkswus | vpkshss | vpkswss | vctuxs | vctsxs =>
    exact ⟨_, .saturating rfl _ _, .inr ⟨rfl, rfl⟩⟩
  | vcmpequb | vcmpequh | vcmpequw | vcmpgtub | vcmpgtuh | vcmpgtuw | vcmpgtsb | vcmpgtsh | vcmpgtsw
  | vcmpeqfp | vcmpgefp | vcmpgtfp => exact ⟨_, .compare rfl _ _, .inr ⟨rfl, rfl⟩⟩
  | vcmpbfp => exact ⟨_, .bounds rfl _ _, .inr ⟨rfl, rfl⟩⟩
  | vrefp | vrsqrtefp | vexptefp | vlogefp | mfvscr => exact ⟨_, .drawnVector _ _, .inr ⟨rfl, rfl⟩⟩
  | vsl | vsr => exact ⟨_, .ite (.vector _ _) (.drawnVector _ _), .inr ⟨rfl, rfl⟩⟩
  | mtvscr => exact ⟨_, .moveToVscr rfl _, .inr ⟨rfl, rfl⟩⟩
  | _ => exact ⟨_, .vector _ _, .inr ⟨rfl, rfl⟩⟩

/-- Everything an instruction that answers a next state can do. -/
theorem exec_cases {i : Instr} {s u : State} (h : exec i s = .next u) :
    (∃ t, InstrEffect i s t ∧ u = t.advance) ∨ u = s.takeUnavailable := by
  obtain ⟨t, ht, ⟨-, he⟩ | ⟨-, he⟩⟩ := exec_effect i s
  · exact .inl ⟨t, ht, Host.Outcome.next.inj (h.symm.trans he)⟩
  · rcases vectorStep_cases (he.symm.trans h) with ⟨-, hu⟩ | ⟨-, hu⟩
    · exact .inl ⟨t, ht, hu⟩
    · exact .inr hu

/-! ## What every effect keeps -/

/-- No effect moves pc or touches MSR, SRR0 or SRR1. -/
theorem InstrEffect.control {i : Instr} {s t : State} (h : InstrEffect i s t) :
    t.pc = s.pc ∧ t.msr = s.msr ∧ t.srr0 = s.srr0 ∧ t.srr1 = s.srr1 := by
  cases h <;> simp

/-- No effect writes a general register, VRSAVE, DAR, DSISR or a register of 10_state.md R71. -/
theorem InstrEffect.registersKept {i : Instr} {s t : State} (h : InstrEffect i s t) : RegistersKept s t := by
  unfold RegistersKept
  cases h <;> simp

/-- Memory is as before, unless the instruction is a store. -/
theorem InstrEffect.mem_eq {i : Instr} {s t : State} (h : InstrEffect i s t) (hi : storesMemory i = false) : t.mem = s.mem := by
  cases h with
  | storeElement hs | storeQuad hs => simp [hs] at hi
  | _ => simp

/-- Every effect keeps memory in canonical form. -/
theorem InstrEffect.keeps_wf {i : Instr} {s t : State} (h : InstrEffect i s t) (hs : Memory.wf s.mem = true) :
    Memory.wf t.mem = true := by
  cases h with
  | storeElement => exact State.storeElement_keeps_wf hs _ _ _
  | storeQuad => exact State.storeQuad_keeps_wf hs _ _
  | _ => simpa using hs

/-- CR is as before, or the instruction is a compare with Rc = 1 and CR field 6 is written. -/
theorem InstrEffect.cr_cases {i : Instr} {s t : State} (h : InstrEffect i s t) :
    t.cr = s.cr ∨ (isRecordCompare i = true ∧ ∃ f, t.cr = (s.writeCR6 f).cr) := by
  cases h with
  | @compare rc hr vD d | @bounds rc hr vD d =>
    cases rc with
    | false => exact .inl rfl
    | true => exact .inr ⟨hr, _, rfl⟩
  | _ => exact .inl (by simp)

/-- The bits of CR outside 24 to 27 are as before. -/
theorem InstrEffect.wordBit_cr {i : Instr} {s t : State} (h : InstrEffect i s t) {b : Nat} (hb : b < 32)
    (hout : b < 24 ∨ 27 < b) : wordBit t.cr b = wordBit s.cr b := by
  rcases h.cr_cases with hcr | ⟨-, f, hcr⟩
  · rw [hcr]
  · rw [hcr, State.writeCR6_cr, wordBit_writeCR6 _ _ _ hb, if_neg (by omega)]

/-- CR is as before, unless the instruction is a compare with Rc = 1. -/
theorem InstrEffect.cr_eq {i : Instr} {s t : State} (h : InstrEffect i s t) (hi : isRecordCompare i = false) : t.cr = s.cr := by
  rcases h.cr_cases with hcr | ⟨hi', -⟩
  · exact hcr
  · simp [hi] at hi'

/-- VSCR is as before, or SAT is set by an instruction of 10_state.md R47, or the instruction is mtvscr. -/
theorem InstrEffect.vscr_cases {i : Instr} {s t : State} (h : InstrEffect i s t) :
    t.vscr = s.vscr ∨ (saturates i = true ∧ t.vscr = s.vscr ||| satMask) ∨ ∃ vB, i = .mtvscr vB := by
  cases h with
  | saturating hs vD d =>
    obtain ⟨q, _ | _⟩ := d
    · exact .inl (by simp)
    · exact .inr (.inl ⟨hs, by simp⟩)
  | moveToVscr hi => exact .inr (.inr ⟨_, hi⟩)
  | _ => exact .inl (by simp)

/-- What an instruction other than mtvscr does to VSCR, completing or not. -/
theorem exec_vscr_cases {i : Instr} {s u : State} (hi : ∀ vB, i ≠ .mtvscr vB) (h : exec i s = .next u) :
    u.vscr = s.vscr ∨ (saturates i = true ∧ u.vscr = s.vscr ||| satMask) := by
  rcases exec_cases h with ⟨t, ht, rfl⟩ | rfl
  · rcases ht.vscr_cases with hv | hv | ⟨vB, hm⟩
    · exact .inl hv
    · exact .inr hv
    · exact absurd hm (hi vB)
  · obtain ⟨-, -, -, hv, -⟩ := s.takeException_frame vectorUnavailable 0
    exact .inl hv

/-! ## The invariant -/

/-- A new stream is in the ranges of 46_data_stream.md R490: zero fields stand for 32, 256 and +32768 (R491). -/
theorem makeStream_legal (kind : StreamKind) (transient pr : Bool) (ea desc : Word) :
    (makeStream kind transient pr ea desc).legal := by
  have hlow := BitVec.le_toInt (desc.extractLsb' 0 16)
  have hhigh := BitVec.toInt_lt (x := desc.extractLsb' 0 16)
  unfold Stream.legal makeStream
  refine ⟨?_, ?_, ?_, ?_, ?_, ?_, ?_, ?_⟩ <;> dsimp only <;> split <;> omega

/-- All streams in a vector of slots are legal: what `State.Inv` asks of `State.streams`. -/
def StreamsLegal (v : Vector (Option Stream) 4) : Prop := ∀ (k : StreamId) (st : Stream), v.get k = some st → st.legal

/-- Setting a slot keeps the streams legal, if what it is set to is legal. -/
theorem StreamsLegal.set {v : Vector (Option Stream) 4} (hv : StreamsLegal v) (k : StreamId) {o : Option Stream}
    (ho : ∀ st, o = some st → st.legal) : StreamsLegal (v.set k.val o k.isLt) := by
  intro j st hj
  by_cases hjk : j = k
  · subst hjk
    exact ho st (by rwa [get_set_self] at hj)
  · exact hv j st (by rwa [get_set_ne _ _ hjk] at hj)

/-- Empty slots hold no stream that could be illegal. -/
theorem streamsLegal_replicate_none : StreamsLegal (Vector.replicate 4 none) := by
  intro k st hk
  change (Vector.replicate 4 (none : Option Stream))[k.val] = some st at hk
  simp at hk

/-- Every effect keeps the streams legal. -/
theorem InstrEffect.keeps_streams {i : Instr} {s t : State} (h : InstrEffect i s t) (hs : StreamsLegal s.streams) :
    StreamsLegal t.streams := by
  cases h with
  | touch kind tr strm rA rB =>
    rw [State.touch_streams]
    split
    · exact hs
    · exact hs.set strm fun st hst => Option.some.inj hst ▸ makeStream_legal ..
  | stop strm => exact hs.set strm fun st hst => by cases hst
  | stopAll => exact streamsLegal_replicate_none
  | _ => simpa using hs

/-- Moving to the next instruction keeps the alignment of pc, also past the last word (10_state.md R59). -/
theorem State.advance_keeps_inv {s : State} (h : s.Inv) : s.advance.Inv := by
  obtain ⟨hmem, hpc, hstr⟩ := h
  refine ⟨hmem, ?_, hstr⟩
  simp only [State.advance_pc]
  bv_omega

/-- The vector bases are aligned, so an exception entry at an aligned offset keeps the invariant (60_exceptions.md R513). -/
theorem State.takeException_keeps_inv {s : State} (h : s.Inv) {vector : Word} (hv : vector.toNat % 4 = 0) (cause : Word) :
    (s.takeException vector cause).Inv := by
  obtain ⟨hmem, -, hstr⟩ := h
  refine ⟨hmem, ?_, hstr⟩
  simp only [State.takeException_pc, State.vectorBase]
  split <;> bv_omega

/-- rfi clears the two low bits of the address it returns to (60_exceptions.md R532). -/
theorem State.returnFromException_keeps_inv {s : State} (h : s.Inv) : s.returnFromException.Inv := by
  obtain ⟨hmem, -, hstr⟩ := h
  refine ⟨hmem, ?_, hstr⟩
  have hlow : (s.srr0 &&& 0xFFFFFFFC) &&& 3 = 0 := by rw [BitVec.and_assoc]; simp
  have hnat := congrArg BitVec.toNat hlow
  rw [BitVec.toNat_and, show (3 : Word).toNat = 2 ^ 2 - 1 from rfl, Nat.and_two_pow_sub_one_eq_mod] at hnat
  exact hnat

/-- The prefetch engine carries a stream on only short of its last unit (46_data_stream.md R494). -/
theorem State.prefetch_keeps_inv {s : State} (h : s.Inv) : s.prefetch.Inv := by
  obtain ⟨hmem, hpc, hstr⟩ := h
  refine ⟨by simpa using hmem, by simpa using hpc, fun k st hk => ?_⟩
  rw [State.prefetch_get] at hk
  obtain ⟨st₀, hst₀, ⟨-, u, hu, rfl⟩ | ⟨-, rfl⟩⟩ := State.slotAfterPrefetch_cases hk
  · obtain ⟨hs1, hs2, hc1, hc2, ht1, ht2, ht3, -⟩ := hstr k st₀ hst₀
    exact ⟨hs1, hs2, hc1, hc2, ht1, ht2, ht3, hu⟩
  · exact hstr k _ hst₀

/-- Every effect keeps the invariant. -/
theorem InstrEffect.keeps_inv {i : Instr} {s t : State} (h : InstrEffect i s t) (hs : s.Inv) : t.Inv := by
  obtain ⟨hmem, hpc, hstr⟩ := hs
  obtain ⟨hpc', -⟩ := h.control
  exact ⟨h.keeps_wf hmem, by rwa [hpc'], h.keeps_streams hstr⟩

/-- Every instruction of the table keeps the invariant. -/
theorem exec_keeps_inv {i : Instr} {s u : State} (hs : s.Inv) (h : exec i s = .next u) : u.Inv := by
  rcases exec_cases h with ⟨t, ht, rfl⟩ | rfl
  · exact State.advance_keeps_inv (ht.keeps_inv hs)
  · exact State.takeException_keeps_inv hs rfl _

/-- The three base instructions keep the invariant. -/
theorem execBase_keeps_inv {b : BaseInstr} {s u : State} (hs : s.Inv) (h : execBase b s = .next u) : u.Inv := by
  cases b with
  | mfsprVrsave rD =>
    cases h
    exact State.advance_keeps_inv (s := s.writeG rD s.vrsave) hs
  | mtsprVrsave rS =>
    cases h
    exact State.advance_keeps_inv (s := { s with vrsave := s.readG rS }) hs
  | rfi =>
    simp only [execBase, execRfi] at h
    split at h <;> cases h
    · exact State.takeException_keeps_inv hs rfl _
    · exact State.returnFromException_keeps_inv hs

/-- Whatever a word decodes to, its effect keeps the invariant. -/
theorem execDecoded_keeps_inv {d : Decoded} {s u : State} (hs : s.Inv) (h : execDecoded d s = .next u) : u.Inv := by
  cases d with
  | instr i => exact exec_keeps_inv hs h
  | base b => exact execBase_keeps_inv hs h
  | illegal =>
    cases h
    exact State.takeException_keeps_inv hs rfl _
  | rejected r => cases h

/-! ## The statements -/

/-- Settles O7: the effect of the fetched word keeps the invariant, and the prefetch engine after it too. -/
theorem stepKeepsTheInvariant : Obligations.StepKeepsTheInvariant := by
  unfold Obligations.StepKeepsTheInvariant
  intro s t hs h
  obtain ⟨u, hu, rfl⟩ := step_cases h
  exact State.prefetch_keeps_inv (execDecoded_keeps_inv hs hu)

/-- Settles O8: with AltiVec available, and for a stream instruction in any state, the effect is followed by pc + 4 alone. -/
theorem everyInstructionCompletes : Obligations.EveryInstructionCompletes := by
  unfold Obligations.EveryInstructionCompletes
  intro i s
  obtain ⟨t, ht, he⟩ := exec_effect i s
  obtain ⟨hpc, hmsr, hsrr0, hsrr1⟩ := ht.control
  have hdone : Completed s t.advance := ⟨by simp [hpc], hmsr, hsrr0, hsrr1⟩
  rcases he with ⟨-, he⟩ | ⟨hi, he⟩
  · exact ⟨_, he, fun _ => hdone⟩
  · cases hv : s.vec with
    | true => exact ⟨_, he.trans (vectorStep_vec hv t), fun _ => hdone⟩
    | false => exact ⟨_, he.trans (vectorStep_unavailable hv t), fun h => by simp [hi] at h⟩

/-- Settles O9: the effect of the instruction keeps all this, and so does the AltiVec unavailable exception. -/
theorem execKeepsTheOtherRegisters : Obligations.ExecKeepsTheOtherRegisters := by
  unfold Obligations.ExecKeepsTheOtherRegisters
  intro i s u h
  rcases exec_cases h with ⟨t, ht, rfl⟩ | rfl
  · exact ⟨ht.registersKept, fun b hb hout => ht.wordBit_cr hb hout, ht.cr_eq, fun hi a => State.byte_congr (ht.mem_eq hi) a⟩
  · obtain ⟨hregs, -, hcr, -, -, hmem⟩ := s.takeException_frame vectorUnavailable 0
    exact ⟨hregs, fun b _ _ => congrArg (wordBit · b) hcr, fun _ => hcr, fun _ a => State.byte_congr hmem a⟩

/-- Settles O10: VSCR is kept or has SAT set, by the effect as by the exception. -/
theorem saturationIsSticky : Obligations.SaturationIsSticky := by
  unfold Obligations.SaturationIsSticky
  intro i s u hi h
  rcases exec_vscr_cases hi h with hv | ⟨hsat, hv⟩
  · refine ⟨fun hs => ?_, fun _ => hv, fun b hb => ?_⟩
    · rwa [State.sat_eq, hv, ← State.sat_eq]
    · rw [State.wordBit_vscrValue _ b (by omega), State.wordBit_vscrValue _ b (by omega), hv]
  · refine ⟨fun _ => ?_, fun hns => by simp [hsat] at hns, fun b hb => ?_⟩
    · simp [State.sat_eq, hv, wordBit_or_satMask]
    · have h31 : (b == 31) = false := by simpa using Nat.ne_of_lt hb
      rw [State.wordBit_vscrValue _ b (by omega), State.wordBit_vscrValue _ b (by omega), hv,
        wordBit_or_satMask _ b (by omega), h31, Bool.or_false]

end Sys2Proof.Machine
end

/-! # Addresses and bytes of a memory operand (20_memory.md R94 to R111)

An access of 1, 2, 4 or 8 bytes modifies its address with XOR 8 - n in little-endian mode, and a quad word is moved as two such
accesses of 8 bytes. `State.munge_add` says what this means byte by byte: byte `i` of the operand, as memory holds it, is the byte
that the program sees at the mirrored place of the operand (R110). From it follows, for each of the four shared operations, which
byte of memory is paired with which byte of the register. Two operations that agree on this agree on the element (R111). -/
section
namespace Sys2Proof.Machine

/-! ## The bytes of a string -/

/-- Byte `i` of a string of `n` bytes, byte 0 the most significant (00_scope.md R14). -/
def byteOf (n : Nat) (v : BitVec (8 * n)) (i : Nat) : Byte := v.extractLsb' (8 * (n - 1 - i)) 8

/-- The byte elements of a quad word are its bytes as a string of 16. -/
theorem elem_eq_byteOf (k : Nat) (v : Quad) : elem 8 k v = byteOf 16 v k := by
  have h : 128 - 8 * (k + 1) = 8 * (16 - 1 - k) := by omega
  simp only [elem, byteOf, h]

/-- Byte `i` of a string as a number. -/
theorem byteOf_eq_ofNat (n : Nat) (v : BitVec (8 * n)) (i : Nat) : byteOf n v i = BitVec.ofNat 8 (v.toNat / 256 ^ (n - 1 - i)) := by
  rw [byteOf, BitVec.extractLsb', Nat.shiftRight_eq_div_pow, Nat.pow_mul]

/-- Two strings with the same bytes are equal. -/
theorem eq_of_byteOf_eq {n : Nat} {v w : BitVec (8 * n)} (h : ∀ i, i < n → byteOf n v i = byteOf n w i) : v = w := by
  apply BitVec.eq_of_getLsbD_eq
  intro b hb
  have hbit := congrArg (BitVec.getLsbD · (b % 8)) (h (n - 1 - b / 8) (by omega))
  have hb8 : 8 * (n - 1 - (n - 1 - b / 8)) + b % 8 = b := by omega
  have hlt : b % 8 < 8 := Nat.mod_lt b (by decide)
  simpa [byteOf, BitVec.getLsbD_extractLsb', hb8, hlt] using hbit

/-- The bytes of element `k` of `n` bytes are `n` consecutive bytes of the quad word. -/
theorem byteOf_elem {n k i : Nat} (hk : n * (k + 1) ≤ 16) (hi : i < n) (v : Quad) :
    byteOf n (elem (8 * n) k v) i = elem 8 (n * k + i) v := by
  rw [Nat.mul_succ] at hk
  apply BitVec.eq_of_getLsbD_eq
  intro b hb
  have hlt : 8 * (n - 1 - i) + b < 8 * n := by omega
  have hoff : 128 - 8 * n * (k + 1) + (8 * (n - 1 - i) + b) = 128 - 8 * (n * k + i + 1) + b := by
    rw [Nat.mul_assoc, Nat.mul_succ]
    omega
  simp only [byteOf, elem, BitVec.getLsbD_extractLsb', hb, hlt, decide_true, Bool.true_and, hoff]

/-- The byte elements of a quad word made of two double words: the first eight come from the first of them. -/
theorem elem_append (x y : BitVec (8 * 8)) {k : Nat} (hk : k < 16) :
    elem 8 k (x ++ y) = if k < 8 then byteOf 8 x k else byteOf 8 y (k - 8) := by
  split
  · have hoff : 128 - 8 * (k + 1) - 8 * 8 = 8 * (8 - 1 - k) := by omega
    exact (BitVec.extractLsb'_append_eq_of_le (by omega)).trans (by rw [hoff, byteOf])
  · have hoff : 128 - 8 * (k + 1) = 8 * (8 - 1 - (k - 8)) := by omega
    exact (BitVec.extractLsb'_append_eq_of_add_le (by omega)).trans (by rw [hoff, byteOf])

/-- The first eight bytes of a quad word. -/
theorem byteOf_high {k : Nat} (hk : k < 8) (q : Quad) : byteOf 8 (q.extractLsb' 64 64) k = elem 8 k q :=
  byteOf_elem (n := 8) (k := 0) (by decide) hk q |>.trans (by rw [Nat.mul_zero, Nat.zero_add])

/-- The last eight bytes of a quad word. -/
theorem byteOf_low {k : Nat} (hk : k < 8) (q : Quad) : byteOf 8 (q.extractLsb' 0 64) k = elem 8 (8 + k) q :=
  byteOf_elem (n := 8) (k := 1) (by decide) hk q

/-- What `loadNat` reads is the byte string from `a` up. -/
theorem State.loadNat_byte (s : State) (a : Word) {n i : Nat} (hi : i < n) :
    BitVec.ofNat 8 (s.loadNat a n / 256 ^ (n - 1 - i)) = s.byte (a + BitVec.ofNat 32 i) := by
  induction n with
  | zero => omega
  | succ n ih =>
    have hb := (s.byte (a + BitVec.ofNat 32 n)).isLt
    rcases Nat.lt_succ_iff_lt_or_eq.mp hi with h | rfl
    · have hpow : 256 ^ (n + 1 - 1 - i) = 256 * 256 ^ (n - 1 - i) := by
        rw [← Nat.pow_succ']
        congr 1
        omega
      have hdiv : s.loadNat a (n + 1) / 256 = s.loadNat a n := by
        rw [State.loadNat]
        omega
      rw [hpow, ← Nat.div_div_eq_div_mul, hdiv, ih h]
    · apply BitVec.eq_of_toNat_eq
      simp only [State.loadNat, BitVec.toNat_ofNat, Nat.add_sub_cancel, Nat.sub_self, Nat.pow_zero, Nat.div_one]
      omega

/-- The bytes of MemRead(a, n), the most significant from the lowest address. -/
theorem State.byteOf_memRead (s : State) (a : Word) {n i : Nat} (hi : i < n) :
    byteOf n (s.memRead a n) i = s.byte (a + BitVec.ofNat 32 i) := by
  rw [← s.loadNat_byte a hi]
  apply BitVec.eq_of_toNat_eq
  rw [byteOf_eq_ofNat, State.memRead, BitVec.toNat_ofNat, BitVec.toNat_ofNat, BitVec.toNat_ofNat]
  have hpow : 2 ^ (8 * n) = 256 ^ (n - 1 - i) * (256 * 256 ^ i) := by
    rw [← Nat.pow_succ', ← Nat.pow_add, Nat.pow_mul]
    congr 1
    omega
  rw [hpow, Nat.mod_mul_right_div_self, show 2 ^ 8 = 256 from rfl, Nat.mod_mul_right_mod]

/-- The bytes of MemWrite(a, n, v), as bytes of the string `v`. -/
theorem State.byte_memWrite_eq_byteOf {s : State} (hm : Memory.wf s.mem = true) (a : Word) {n i : Nat} (v : BitVec (8 * n))
    (hi : i < n) (hn : n ≤ 2 ^ 32) : (s.memWrite a n v).byte (a + BitVec.ofNat 32 i) = byteOf n v i := by
  rw [State.byte_memWrite hm a n v i hi hn, byteOf_eq_ofNat]

/-! ## The effective address -/

/-- Clearing the `k` low-order bits rounds down to a multiple of 2^k. -/
theorem toNat_and_not_lowBits (a : Word) (k : Nat) :
    (a &&& ~~~(BitVec.ofNat 32 (2 ^ k - 1))).toNat = a.toNat - a.toNat % 2 ^ k := by
  have hshift : a &&& ~~~(BitVec.ofNat 32 (2 ^ k - 1)) = (a >>> k) <<< k := by
    apply BitVec.eq_of_getLsbD_eq
    intro b hb
    rw [BitVec.getLsbD_and, BitVec.getLsbD_not, BitVec.getLsbD_ofNat, Nat.testBit_two_pow_sub_one, BitVec.getLsbD_shiftLeft,
      BitVec.getLsbD_ushiftRight]
    by_cases h : b < k
    · simp [hb, h]
    · simp [hb, h, Nat.add_sub_of_le (Nat.not_lt.mp h)]
  have hdiv : a.toNat / 2 ^ k * 2 ^ k = a.toNat - a.toNat % 2 ^ k := by
    have := Nat.div_add_mod' a.toNat (2 ^ k)
    omega
  have hlt := a.isLt
  rw [hshift, BitVec.toNat_shiftLeft, BitVec.toNat_ushiftRight, Nat.shiftLeft_eq, Nat.shiftRight_eq_div_pow, hdiv,
    Nat.mod_eq_of_lt (by omega)]

/-- The effective address of an access whose size is a power of two is the sum rounded down to the size (R96). -/
theorem State.ea_toNat (s : State) {n : Nat} (hn : n ∣ 16) (rA rB : GReg) :
    (s.ea n rA rB).toNat = (s.eaSum rA rB).toNat - (s.eaSum rA rB).toNat % n := by
  obtain ⟨k, -, rfl⟩ := (Nat.dvd_prime_pow Nat.prime_two (m := 4)).mp hn
  exact toNat_and_not_lowBits _ k

/-- The effective address of an access is a multiple of its size. -/
theorem State.dvd_ea (s : State) {n : Nat} (hn : n ∣ 16) (rA rB : GReg) : n ∣ (s.ea n rA rB).toNat := by
  rw [s.ea_toNat hn]
  exact Nat.dvd_sub_mod _

/-- The operand of an access lies in the quad word that lvx and stvx would access at the same registers. -/
theorem State.ea_quad_add (s : State) {n : Nat} (hn : n ∣ 16) (rA rB : GReg) (j : Nat) :
    s.ea 16 rA rB + BitVec.ofNat 32 ((s.ea n rA rB).toNat % 16 + j) = s.ea n rA rB + BitVec.ofNat 32 j := by
  have hmod := Nat.mod_mod_of_dvd (s.eaSum rA rB).toNat hn
  have hlow := Nat.mod_le ((s.eaSum rA rB).toNat % 16) n
  have hquad : (s.ea 16 rA rB).toNat + (s.ea n rA rB).toNat % 16 = (s.ea n rA rB).toNat := by
    rw [s.ea_toNat (Nat.dvd_refl 16), s.ea_toNat hn]
    omega
  apply BitVec.eq_of_toNat_eq
  simp only [BitVec.toNat_add, BitVec.toNat_ofNat]
  omega

/-! ## The two byte orders -/

/-- The place, among `n` bytes, that is `i` bytes from the left in big-endian mode and `i` bytes from the right in little-endian
mode; among 16 bytes it is `State.regByte`. -/
def State.mirror (s : State) (n i : Nat) : Nat := if s.le then n - 1 - i else i

theorem State.mirror_lt (s : State) {n i : Nat} (hi : i < n) : s.mirror n i < n := by
  unfold State.mirror
  split <;> omega

theorem State.mirror_mirror (s : State) {n i : Nat} (hi : i < n) : s.mirror n (s.mirror n i) = i := by
  unfold State.mirror
  split <;> omega

/-- The sizes of the operands whose address is modified (R106, Table 3-2). -/
theorem size_cases {n : Nat} (hn : n ∣ 8) : n = 1 ∨ n = 2 ∨ n = 4 ∨ n = 8 := by
  have hle := Nat.le_of_dvd (by decide) hn
  interval_cases n <;> omega

/-- XOR with 8 - n mirrors the place of an aligned operand within its double word (R106, Table 3-2). -/
theorem xor_size_toNat {n : Nat} (hn : n ∣ 8) {a : Word} (ha : n ∣ a.toNat) :
    (a ^^^ BitVec.ofNat 32 (8 - n)).toNat = a.toNat / 8 * 8 + (8 - n - a.toNat % 8) := by
  have hpos : 0 < n := Nat.pos_of_dvd_of_pos hn (by decide)
  have hhigh : (a.toNat ^^^ (8 - n)) / 2 ^ 3 = a.toNat / 2 ^ 3 := by
    rw [Nat.xor_div_two_pow, Nat.div_eq_of_lt (show 8 - n < 2 ^ 3 by omega), Nat.xor_zero]
  have hlow : (a.toNat ^^^ (8 - n)) % 2 ^ 3 = 8 - n - a.toNat % 8 := by
    have hr : n ∣ a.toNat % 8 := (Nat.dvd_mod_iff hn).mpr ha
    have hlt : a.toNat % 8 < 8 := Nat.mod_lt _ (by decide)
    rw [Nat.xor_mod_two_pow, Nat.mod_eq_of_lt (show 8 - n < 2 ^ 3 by omega)]
    change a.toNat % 8 ^^^ (8 - n) = 8 - n - a.toNat % 8
    generalize a.toNat % 8 = r at hr hlt
    rcases size_cases hn with rfl | rfl | rfl | rfl <;> revert r <;> decide
  rw [BitVec.toNat_xor, BitVec.toNat_ofNat, Nat.mod_eq_of_lt (show 8 - n < 2 ^ 32 by omega), ← hlow,
    show a.toNat / 8 = (a.toNat ^^^ (8 - n)) / 2 ^ 3 from hhigh.symm]
  exact (Nat.div_add_mod' _ (2 ^ 3)).symm

/-- Byte `i` of an aligned operand, as memory holds it, is the byte that the program sees at the mirrored place (R106, R110). -/
theorem State.munge_add (s : State) {n i : Nat} (hn : n ∣ 8) {a : Word} (ha : n ∣ a.toNat) (hi : i < n) :
    s.munge n a + BitVec.ofNat 32 i = s.bus (a + BitVec.ofNat 32 (s.mirror n i)) := by
  unfold State.munge State.bus State.mirror
  split
  · have hlt := a.isLt
    have hmunge := xor_size_toNat hn ha
    have hbus := xor_size_toNat (Nat.one_dvd 8) (Nat.one_dvd (a + BitVec.ofNat 32 (n - 1 - i)).toNat)
    apply BitVec.eq_of_toNat_eq
    refine Eq.trans ?_ hbus.symm
    rw [BitVec.toNat_add, hmunge, BitVec.toNat_add, BitVec.toNat_ofNat, BitVec.toNat_ofNat]
    rcases size_cases hn with rfl | rfl | rfl | rfl <;> omega
  · rfl

/-- The same, from the byte that the program sees. -/
theorem State.bus_add (s : State) {n j : Nat} (hn : n ∣ 8) {a : Word} (ha : n ∣ a.toNat) (hj : j < n) :
    s.bus (a + BitVec.ofNat 32 j) = s.munge n a + BitVec.ofNat 32 (s.mirror n j) := by
  rw [s.munge_add hn ha (s.mirror_lt hj), s.mirror_mirror hj]

/-- An aligned operand is paired with an element that lies within the register. -/
theorem State.lane_le (s : State) {n : Nat} (hn : n ∣ 8) (a : Word) : n * (s.lane n a + 1) ≤ 16 := by
  unfold State.lane
  rcases size_cases hn with rfl | rfl | rfl | rfl <;> split <;> omega

/-- The bytes of the element that is paired with an aligned operand: those of the register at the operand's place (R105, R109). -/
theorem State.lane_add (s : State) {n i : Nat} (hn : n ∣ 8) {a : Word} (ha : n ∣ a.toNat) (hi : i < n) :
    n * s.lane n a + i = s.regByte (a.toNat % 16 + s.mirror n i) := by
  unfold State.lane State.regByte State.mirror
  rcases size_cases hn with rfl | rfl | rfl | rfl <;> split <;> omega

/-- An aligned operand does not reach over the end of its quad word. -/
theorem place_lt {n j : Nat} (hn : n ∣ 8) {a : Word} (ha : n ∣ a.toNat) (hj : j < n) : a.toNat % 16 + j < 16 := by
  rcases size_cases hn with rfl | rfl | rfl | rfl <;> omega

/-- In little-endian mode the program sees the bytes of a double word in reverse order (R110). -/
theorem State.bus_doubleWord {s : State} (hle : s.le = true) {a : Word} (ha : 8 ∣ a.toNat) {j : Nat} (hj : j < 8) :
    s.bus (a + BitVec.ofNat 32 j) = a + BitVec.ofNat 32 (7 - j) := by
  rw [s.bus_add (Nat.dvd_refl 8) ha hj]
  simp [State.munge, State.mirror, hle]

/-! ## Which byte of memory is paired with which byte of the register -/

/-- A quad-word load, byte by byte (R105, R108, R110). -/
theorem State.elem_loadQuad (s : State) {ea : Word} (ha : 16 ∣ ea.toNat) {j : Nat} (hj : j < 16) :
    elem 8 (s.regByte j) (s.loadQuad ea) = s.byte (s.bus (ea + BitVec.ofNat 32 j)) := by
  cases hle : s.le with
  | false =>
    simp only [State.regByte, State.bus, State.loadQuad, hle, Bool.false_eq_true, if_false]
    rw [elem_eq_byteOf, s.byteOf_memRead ea hj]
  | true =>
    simp only [State.regByte, State.loadQuad, hle, if_true]
    rw [elem_append _ _ (by omega)]
    by_cases hj8 : j < 8
    · rw [if_neg (by omega), s.byteOf_memRead ea (by omega), State.bus_doubleWord hle (by omega) hj8]
      congr 3
      omega
    · obtain ⟨i, rfl⟩ := Nat.exists_eq_add_of_le (Nat.not_lt.mp hj8)
      rw [if_pos (by omega), s.byteOf_memRead (ea + 8) (by omega), BitVec.ofNat_add, ← BitVec.add_assoc,
        State.bus_doubleWord hle (a := ea + BitVec.ofNat 32 8) (by bv_omega) (by omega)]
      congr 3
      omega

/-- A quad-word store, byte by byte (R105, R108, R110). -/
theorem State.byte_storeQuad {s : State} (hm : Memory.wf s.mem = true) {ea : Word} (ha : 16 ∣ ea.toNat) (q : Quad) {j : Nat}
    (hj : j < 16) : (s.storeQuad ea q).byte (s.bus (ea + BitVec.ofNat 32 j)) = elem 8 (s.regByte j) q := by
  cases hle : s.le with
  | false =>
    simp only [State.regByte, State.bus, State.storeQuad, hle, Bool.false_eq_true, if_false]
    rw [elem_eq_byteOf, State.byte_memWrite_eq_byteOf hm ea (n := 16) q hj (by decide)]
  | true =>
    simp only [State.regByte, State.storeQuad, hle, if_true]
    by_cases hj8 : j < 8
    · rw [State.bus_doubleWord hle (by omega) hj8, State.byte_memWrite_ne _ _ _ _ _ fun i hi => by bv_omega,
        State.byte_memWrite_eq_byteOf hm ea _ (by omega) (by decide), byteOf_low (by omega)]
      congr 1
      omega
    · obtain ⟨i, rfl⟩ := Nat.exists_eq_add_of_le (Nat.not_lt.mp hj8)
      rw [BitVec.ofNat_add, ← BitVec.add_assoc, State.bus_doubleWord hle (a := ea + BitVec.ofNat 32 8) (by bv_omega) (by omega)]
      refine (State.byte_memWrite_eq_byteOf (State.memWrite_keeps_wf hm _ _ _) (ea + 8) _ (by omega) (by decide)).trans ?_
      rw [byteOf_high (by omega)]
      congr 1
      omega

/-- An element load, byte by byte (R105, R109, R110). -/
theorem State.elem_loadElement_byte (s : State) {n : Nat} (hn : n ∣ 8) (vD : VReg) {ea : Word} (ha : n ∣ ea.toNat) {j : Nat}
    (hj : j < n) : elem 8 (s.regByte (ea.toNat % 16 + j)) ((s.loadElement n vD ea).readV vD) =
      s.byte (s.bus (ea + BitVec.ofNat 32 j)) := by
  have hlane := s.lane_le hn ea
  have hlt : s.lane n ea < 128 / (8 * n) := by
    rw [Nat.lt_iff_add_one_le, Nat.le_div_iff_mul_le (by omega), Nat.mul_left_comm, Nat.mul_comm _ n]
    omega
  have hi := s.mirror_lt hj
  have hplace : n * s.lane n ea + s.mirror n j = s.regByte (ea.toNat % 16 + j) := by
    rw [s.lane_add hn ha hi, s.mirror_mirror hj]
  rw [← hplace, ← byteOf_elem hlane hi, s.elem_loadElement (Nat.mul_dvd_mul_left 8 (hn.trans ⟨2, rfl⟩)) (by omega) vD ea hlt,
    s.byteOf_memRead _ hi, s.bus_add hn ha hj]

/-- An element store, byte by byte (R105, R109, R110). -/
theorem State.byte_storeElement {s : State} (hm : Memory.wf s.mem = true) {n : Nat} (hn : n ∣ 8) (vS : VReg) {ea : Word}
    (ha : n ∣ ea.toNat) {j : Nat} (hj : j < n) :
    (s.storeElement n vS ea).byte (s.bus (ea + BitVec.ofNat 32 j)) = elem 8 (s.regByte (ea.toNat % 16 + j)) (s.readV vS) := by
  have hn8 := Nat.le_of_dvd (by decide) hn
  have hi := s.mirror_lt hj
  rw [State.storeElement, s.bus_add hn ha hj, State.byte_memWrite_eq_byteOf hm _ _ hi (by omega),
    byteOf_elem (s.lane_le hn ea) hi, s.lane_add hn ha hi, s.mirror_mirror hj]

/-! ## An element access against the access to the whole quad word (R111) -/

/-- An element load fills the addressed element with what the quad-word load at the same registers has there. -/
theorem State.elem_loadElement_eq_loadQuad (s : State) {n : Nat} (hn : n ∣ 8) (vD : VReg) (rA rB : GReg) :
    elem (8 * n) (s.lane n (s.ea n rA rB)) ((s.loadElement n vD (s.ea n rA rB)).readV vD) =
      elem (8 * n) (s.lane n (s.ea n rA rB)) (s.loadQuad (s.ea 16 rA rB)) := by
  have hn16 : n ∣ 16 := hn.trans (by decide)
  have ha := s.dvd_ea hn16 rA rB
  have hlane := s.lane_le hn (s.ea n rA rB)
  refine eq_of_byteOf_eq fun i hi => ?_
  have hj := s.mirror_lt hi
  rw [byteOf_elem hlane hi, byteOf_elem hlane hi, s.lane_add hn ha hi, s.elem_loadElement_byte hn vD ha hj,
    s.elem_loadQuad (s.dvd_ea (Nat.dvd_refl 16) rA rB) (place_lt hn ha hj), s.ea_quad_add hn16]

/-- An element store leaves at its addresses what the quad-word store at the same registers leaves there. -/
theorem State.byte_storeElement_eq_storeQuad {s : State} (hm : Memory.wf s.mem = true) {n : Nat} (hn : n ∣ 8) (vS : VReg)
    (rA rB : GReg) {i : Nat} (hi : i < n) :
    (s.storeElement n vS (s.ea n rA rB)).byte (s.munge n (s.ea n rA rB) + BitVec.ofNat 32 i) =
      (s.storeQuad (s.ea 16 rA rB) (s.readV vS)).byte (s.munge n (s.ea n rA rB) + BitVec.ofNat 32 i) := by
  have hn16 : n ∣ 16 := hn.trans (by decide)
  have ha := s.dvd_ea hn16 rA rB
  have hj := s.mirror_lt hi
  rw [s.munge_add hn ha hi, State.byte_storeElement hm hn vS ha hj, ← s.ea_quad_add hn16,
    State.byte_storeQuad hm (s.dvd_ea (Nat.dvd_refl 16) rA rB) _ (place_lt hn ha hj)]

/-! ## The statements -/

/-- With AltiVec available a vector access has its own effect and goes on (40_load_store.md R181). -/
theorem accessStep_vec {s : State} (hv : s.vec = true) (ea : Word) (d t : State) : accessStep s ea d t = .next t.advance :=
  (accessStep_eq_vectorStep s ea d t).trans (vectorStep_vec hv t)

/-- Settles O16: the complement of size - 1 is the mask of each size, all ones for a byte. -/
theorem effectiveAddress : Obligations.EffectiveAddress := by
  unfold Obligations.EffectiveAddress
  intro s rA rB
  refine ⟨rfl, ?_, rfl, rfl, rfl⟩
  exact BitVec.and_allOnes

/-- Settles O21: each element access agrees with the quad-word access on the bytes they share. -/
theorem elementAccessAgreesWithQuadWord : Obligations.ElementAccessAgreesWithQuadWord := by
  unfold Obligations.ElementAccessAgreesWithQuadWord
  intro s v rA rB hv hm
  have hload (n : Nat) (hn : n ∣ 8) :
      elem (8 * n) (s.lane n (s.ea n rA rB)) ((s.loadElement n v (s.ea n rA rB)).advance.readV v) =
        elem (8 * n) (s.lane n (s.ea n rA rB)) ((s.writeV v (s.loadQuad (s.ea 16 rA rB))).advance.readV v) := by
    simpa using s.elem_loadElement_eq_loadQuad hn v rA rB
  have hstore (n : Nat) (hn : n ∣ 8) (j : Nat) (hj : j < n) :
      (s.storeElement n v (s.ea n rA rB)).advance.byte (s.munge n (s.ea n rA rB) + BitVec.ofNat 32 j) =
        (s.storeQuad (s.ea 16 rA rB) (s.readV v)).advance.byte (s.munge n (s.ea n rA rB) + BitVec.ofNat 32 j) := by
    simpa using State.byte_storeElement_eq_storeQuad hm hn v rA rB hj
  refine ⟨⟨_, accessStep_vec hv _ _ _, ?_, ?_, ?_⟩, ⟨_, accessStep_vec hv _ _ _, ?_⟩⟩
  · exact ⟨_, accessStep_vec hv _ _ _, hload 1 (by decide)⟩
  · exact ⟨_, accessStep_vec hv _ _ _, hload 2 (by decide)⟩
  · exact ⟨_, accessStep_vec hv _ _ _, hload 4 (by decide)⟩
  · simp only [List.forall_mem_cons]
    refine ⟨?_, ?_, ?_, by simp⟩
    · exact ⟨_, accessStep_vec hv _ _ _, hstore 1 (by decide)⟩
    · exact ⟨_, accessStep_vec hv _ _ _, hstore 2 (by decide)⟩
    · exact ⟨_, accessStep_vec hv _ _ _, hstore 4 (by decide)⟩

end Sys2Proof.Machine
end

/-! # The decoder and the encoder (30_encoding.md R142 to R165)

Both sides of the encoding meet in `formWord`, the word with a given opcode, three fields and a rest. `Row op r lay` says that the
decoder reads the words of opcode `op` that end in `r` with the layout `lay`; a layout reads its operands back from a `formWord`, so
that a row of the decoder's table is all that decoding an encoded instruction needs. For the converse, `EncodedBy w d` says that the
encoder writes `w` for what `d` is; on a row of a table that is an equation between the fields of `w` and `w` itself. -/
section
namespace Sys2Proof

/-! ## Fields of a word -/

@[simp] theorem fieldD_val (w : Nat) : (fieldD w).val = w / 2097152 % 32 := rfl
@[simp] theorem fieldA_val (w : Nat) : (fieldA w).val = w / 65536 % 32 := rfl
@[simp] theorem fieldB_val (w : Nat) : (fieldB w).val = w / 2048 % 32 := rfl
@[simp] theorem fieldC_val (w : Nat) : (fieldC w).val = w / 64 % 32 := rfl
@[simp] theorem fieldSHB_val (w : Nat) : (fieldSHB w).val = w / 64 % 16 := rfl
@[simp] theorem fieldSTRM_val (w : Nat) : (fieldSTRM w).val = w / 2097152 % 4 := rfl
@[simp] theorem fieldImm_toNat (w : Nat) : (fieldImm w).toNat = w / 65536 % 32 := BitVec.toNat_ofNat _ _

@[simp] theorem bit21_toNat (w : Nat) : (bit21 w).toNat = w / 1024 % 2 := by
  rcases Nat.mod_two_eq_zero_or_one (w / 1024) with h | h <;> simp [bit21, h]

@[simp] theorem bit6_toNat (w : Nat) : (bit6 w).toNat = w / 33554432 % 2 := by
  rcases Nat.mod_two_eq_zero_or_one (w / 33554432) with h | h <;> simp [bit6, h]

/-- The word with primary opcode `op`, the numbers `d`, `a` and `b` in bits 6-10, 11-15 and 16-20, and `r` in bits 21-31. -/
def formWord (op d a b r : Nat) : Nat := op * 67108864 + d * 2097152 + a * 65536 + b * 2048 + r

theorem packOp4_eq (d a b r : Nat) : packOp4 d a b r = formWord 4 d a b r := rfl
theorem packOp31_eq (d a b r : Nat) : packOp31 d a b r = formWord 31 d a b r := rfl

/-- The numbers fit their fields: five bits each for `d`, `a` and `b`, eleven for the rest. -/
structure FitsFields (d a b r : Nat) : Prop where
  d : d < 32
  a : a < 32
  b : b < 32
  r : r < 2048

section
variable {op d a b r : Nat} (h : FitsFields d a b r)
include h

theorem formWord_opcode : formWord op d a b r / 67108864 = op := by
  obtain ⟨hd, ha, hb, hr⟩ := h
  simp only [formWord]
  omega

theorem formWord_rest : formWord op d a b r % 2048 = r := by
  obtain ⟨hd, ha, hb, hr⟩ := h
  simp only [formWord]
  omega

theorem formWord_bits6_10 : formWord op d a b r / 2097152 % 32 = d := by
  obtain ⟨hd, ha, hb, hr⟩ := h
  simp only [formWord]
  omega

theorem formWord_bits11_15 : formWord op d a b r / 65536 % 32 = a := by
  obtain ⟨hd, ha, hb, hr⟩ := h
  simp only [formWord]
  omega

theorem formWord_bits16_20 : formWord op d a b r / 2048 % 32 = b := by
  obtain ⟨hd, ha, hb, hr⟩ := h
  simp only [formWord]
  omega

theorem fieldD_formWord : fieldD (formWord op d a b r) = ⟨d, h.d⟩ := Fin.ext (formWord_bits6_10 h)
theorem fieldA_formWord : fieldA (formWord op d a b r) = ⟨a, h.a⟩ := Fin.ext (formWord_bits11_15 h)
theorem fieldB_formWord : fieldB (formWord op d a b r) = ⟨b, h.b⟩ := Fin.ext (formWord_bits16_20 h)

end

theorem fieldImm_formWord {op d b r : Nat} {u : BitVec 5} (h : FitsFields d u.toNat b r) :
    fieldImm (formWord op d u.toNat b r) = u :=
  BitVec.eq_of_toNat_eq ((fieldImm_toNat _).trans (formWord_bits11_15 h))

/-! Bits 6-10 of a touch or stop word hold one bit, T or A, two reserved bits, and STRM (30_encoding.md R151). -/

section
variable {w d : Nat} {t : Bool} {s : Fin 4} (hw : w / 2097152 % 32 = d) (hd : d = 16 * t.toNat + s)
include hw hd

theorem bits7_8_of_touch : w / 8388608 % 4 = 0 := by
  have ht := t.toNat_le
  omega

theorem bit6_of_touch : bit6 w = t := by
  have ht := t.toNat_le
  refine Function.LeftInverse.injective Bool.ofNat_toNat ?_
  rw [bit6_toNat]
  omega

theorem fieldSTRM_of_touch : fieldSTRM w = s := by
  refine Fin.ext ?_
  rw [fieldSTRM_val]
  omega

end

/-! ## Rows of the decoder's tables -/

/-- The decoder reads the words of primary opcode `op` whose bits 21-31 are `r` with the layout `lay`. -/
def Row (op r : Nat) (lay : Nat → Decoded) : Prop := ∀ w, w / 67108864 = op → w % 2048 = r → decodeNat w = lay w

theorem decodeNat_op4 {w : Nat} (h : w / 67108864 = 4) : decodeNat w = decodeOp4 w := if_pos h

theorem decodeNat_op31 {w : Nat} (h : w / 67108864 = 31) : decodeNat w = decodeOp31 w := by simp [decodeNat, h]

/-- A row of the VA form (30_encoding.md R153). -/
theorem Row.va {x c : Nat} {lay : Nat → Decoded} (hx : x / 16 = 2) (h : ∀ w, w % 64 = x → decodeVA w = lay w) :
    Row 4 (c * 64 + x) lay := by
  intro w hop hw
  rw [decodeNat_op4 hop, decodeOp4, if_pos (by omega), h w (by omega)]

/-- A row of the VXR form (30_encoding.md R155). -/
theorem Row.vxr {x rc : Nat} {lay : Nat → Decoded} (hx : x < 1024) (h6 : x % 64 = 6)
    (h : ∀ w, w % 1024 = x → decodeVXR w = lay w) : Row 4 (rc * 1024 + x) lay := by
  intro w hop hw
  rw [decodeNat_op4 hop, decodeOp4, if_neg (by omega), if_pos (by omega), h w (by omega)]

/-- A row of the VX form (30_encoding.md R154). -/
theorem Row.vx {r : Nat} {lay : Nat → Decoded} (hva : r / 16 % 4 ≠ 2) (hvxr : r % 64 ≠ 6)
    (h : ∀ w, w % 2048 = r → w / 512 % 4 = r / 512 → decodeVX w = lay w) : Row 4 r lay := by
  intro w hop hw
  rw [decodeNat_op4 hop, decodeOp4, if_neg (by omega), if_neg (by omega), h w hw (by omega)]

/-- A row of the X form (30_encoding.md R156). -/
theorem Row.x {r : Nat} {lay : Nat → Decoded} (h : ∀ w, w % 2048 = r → decodeOp31 w = lay w) : Row 31 r lay :=
  fun w hop hw => (decodeNat_op31 hop).trans (h w hw)

theorem row_dst : Row 31 684 (layTouch .dst .dstt) := Row.x fun w h => by simp only [decodeOp31, h]

theorem row_dstst : Row 31 748 (layTouch .dstst .dststt) := Row.x fun w h => by simp only [decodeOp31, h]

theorem row_stop : Row 31 1644 layStop := Row.x fun w h => by simp only [decodeOp31, h]

/-- A word put together from fitting fields is read with the layout of its row. -/
theorem Row.decodeNat_formWord {op d a b r : Nat} {lay : Nat → Decoded} (row : Row op r lay) (h : FitsFields d a b r) :
    decodeNat (formWord op d a b r) = lay (formWord op d a b r) :=
  row _ (formWord_opcode h) (formWord_rest h)

/-! ## Each layout reads back the operands it was given -/

section
variable {op r : Nat} (hr : r < 2048)
include hr

theorem Row.decodeNat_dab {k : Fin 32 → Fin 32 → Fin 32 → Instr} (row : Row op r (layDAB k)) (d a b : Fin 32) :
    decodeNat (formWord op d a b r) = .instr (k d a b) := by
  have h : FitsFields d a b r := ⟨d.isLt, a.isLt, b.isLt, hr⟩
  rw [row.decodeNat_formWord h, layDAB, fieldD_formWord h, fieldA_formWord h, fieldB_formWord h]

theorem Row.decodeNat_db {k : Fin 32 → Fin 32 → Instr} (row : Row op r (layDB k)) (d b : Fin 32) :
    decodeNat (formWord op d 0 b r) = .instr (k d b) := by
  have h : FitsFields d 0 b r := ⟨d.isLt, by decide, b.isLt, hr⟩
  rw [row.decodeNat_formWord h, layDB, formWord_bits11_15 h, fieldD_formWord h, fieldB_formWord h, reservedZero, if_pos rfl]

theorem Row.decodeNat_dub {k : Fin 32 → BitVec 5 → Fin 32 → Instr} (row : Row op r (layDUB k)) (d : Fin 32) (u : BitVec 5)
    (b : Fin 32) : decodeNat (formWord op d u.toNat b r) = .instr (k d u b) := by
  have h : FitsFields d u.toNat b r := ⟨d.isLt, u.isLt, b.isLt, hr⟩
  rw [row.decodeNat_formWord h, layDUB, fieldD_formWord h, fieldImm_formWord h, fieldB_formWord h]

theorem Row.decodeNat_ds {k : Fin 32 → BitVec 5 → Instr} (row : Row op r (layDS k)) (d : Fin 32) (u : BitVec 5) :
    decodeNat (formWord op d u.toNat 0 r) = .instr (k d u) := by
  have h : FitsFields d u.toNat 0 r := ⟨d.isLt, u.isLt, by decide, hr⟩
  rw [row.decodeNat_formWord h, layDS, formWord_bits16_20 h, fieldD_formWord h, fieldImm_formWord h, reservedZero, if_pos rfl]

theorem Row.decodeNat_d {k : Fin 32 → Instr} (row : Row op r (layD k)) (d : Fin 32) :
    decodeNat (formWord op d 0 0 r) = .instr (k d) := by
  have h : FitsFields d 0 0 r := ⟨d.isLt, by decide, by decide, hr⟩
  have hz : formWord op d 0 0 r / 2048 % 1024 = 0 := by simp only [formWord]; omega
  rw [row.decodeNat_formWord h, layD, hz, fieldD_formWord h, reservedZero, if_pos rfl]

theorem Row.decodeNat_b {k : Fin 32 → Instr} (row : Row op r (layB k)) (b : Fin 32) :
    decodeNat (formWord op 0 0 b r) = .instr (k b) := by
  have h : FitsFields 0 0 b r := ⟨by decide, by decide, b.isLt, hr⟩
  have hz : formWord op 0 0 b r / 65536 % 1024 = 0 := by simp only [formWord]; omega
  rw [row.decodeNat_formWord h, layB, hz, fieldB_formWord h, reservedZero, if_pos rfl]

/-- A touch word: T and STRM share the field of bits 6-10 (30_encoding.md R151). -/
theorem Row.decodeNat_touch {k kt : Fin 4 → Fin 32 → Fin 32 → Instr} (row : Row op r (layTouch k kt)) {d : Nat} (t : Bool)
    (s : Fin 4) (hd : d = 16 * t.toNat + s) (a b : Fin 32) :
    decodeNat (formWord op d a b r) = .instr (if t then kt s a b else k s a b) := by
  have ht := t.toNat_le
  have h : FitsFields d a b r := ⟨by omega, a.isLt, b.isLt, hr⟩
  rw [row.decodeNat_formWord h, layTouch, bits7_8_of_touch (formWord_bits6_10 h) hd, bit6_of_touch (formWord_bits6_10 h) hd,
    fieldSTRM_of_touch (formWord_bits6_10 h) hd, fieldA_formWord h, fieldB_formWord h, reservedZero, if_pos rfl]

/-- A stop word: A and STRM share the field of bits 6-10 (30_encoding.md R151). -/
theorem Row.decodeNat_stop (row : Row op r layStop) {d : Nat} (t : Bool) (s : Fin 4) (hd : d = 16 * t.toNat + s) :
    decodeNat (formWord op d 0 0 r) = .instr (if t then .dssall else .dss s) := by
  have ht := t.toNat_le
  have h : FitsFields d 0 0 r := ⟨by omega, by decide, by decide, hr⟩
  have hz : formWord op d 0 0 r / 2048 % 1024 = 0 := by simp only [formWord]; omega
  rw [row.decodeNat_formWord h, layStop, hz, bits7_8_of_touch (formWord_bits6_10 h) hd, bit6_of_touch (formWord_bits6_10 h) hd,
    fieldSTRM_of_touch (formWord_bits6_10 h) hd, reservedZero, if_pos rfl]

end

section
variable {op x : Nat}

theorem Row.decodeNat_dabc {k : Fin 32 → Fin 32 → Fin 32 → Fin 32 → Instr} (d a b c : Fin 32)
    (row : Row op (c * 64 + x) (layDABC k)) (hx : x < 64) : decodeNat (formWord op d a b (c * 64 + x)) = .instr (k d a b c) := by
  have h : FitsFields d a b (c * 64 + x) := ⟨d.isLt, a.isLt, b.isLt, by omega⟩
  have hc : fieldC (formWord op d a b (c * 64 + x)) = c := by
    refine Fin.ext ?_
    simp only [fieldC_val, formWord]
    omega
  rw [row.decodeNat_formWord h, layDABC, fieldD_formWord h, fieldA_formWord h, fieldB_formWord h, hc]

theorem Row.decodeNat_sldoi {k : Fin 32 → Fin 32 → Fin 32 → Fin 16 → Instr} (d a b : Fin 32) (c : Fin 16)
    (row : Row op (c * 64 + x) (laySldoi k)) (hx : x < 64) : decodeNat (formWord op d a b (c * 64 + x)) = .instr (k d a b c) := by
  have h : FitsFields d a b (c * 64 + x) := ⟨d.isLt, a.isLt, b.isLt, by omega⟩
  have hz : formWord op d a b (c * 64 + x) / 1024 % 2 = 0 := by simp only [formWord]; omega
  have hc : fieldSHB (formWord op d a b (c * 64 + x)) = c := by
    refine Fin.ext ?_
    simp only [fieldSHB_val, formWord]
    omega
  rw [row.decodeNat_formWord h, laySldoi, hz, fieldD_formWord h, fieldA_formWord h, fieldB_formWord h, hc, reservedZero, if_pos rfl]

theorem Row.decodeNat_vxr {k : Fin 32 → Fin 32 → Fin 32 → Bool → Instr} (d a b : Fin 32) (rc : Bool)
    (row : Row op (rc.toNat * 1024 + x) (layVXR k)) (hx : x < 1024) :
    decodeNat (formWord op d a b (rc.toNat * 1024 + x)) = .instr (k d a b rc) := by
  have hrc := rc.toNat_le
  have h : FitsFields d a b (rc.toNat * 1024 + x) := ⟨d.isLt, a.isLt, b.isLt, by omega⟩
  have hc : bit21 (formWord op d a b (rc.toNat * 1024 + x)) = rc := by
    refine Function.LeftInverse.injective Bool.ofNat_toNat ?_
    simp only [bit21_toNat, formWord]
    omega
  rw [row.decodeNat_formWord h, layVXR, fieldD_formWord h, fieldA_formWord h, fieldB_formWord h, hc]

end

/-! ## Decoding what was encoded -/

/-- Decoding inverts encoding: each instruction is found in its row, and the row's layout reads its operands back. -/
theorem decodeNat_encodeNat (i : Instr) : decodeNat (encodeNat i) = .instr i := by
  cases i with
  | lvsl d a b | lvebx d a b | lvsr d a b | lvehx d a b | lvewx d a b | lvx d a b | stvebx d a b | stvehx d a b | stvewx d a b
  | stvx d a b | lvxl d a b | stvxl d a b =>
    exact (Row.x fun w h => by rewrite [decodeOp31, h]; rfl).decodeNat_dab (by decide) d a b
  | dst s a b => exact row_dst.decodeNat_touch (by decide) false s (by simp) a b
  | dstt s a b => exact row_dst.decodeNat_touch (by decide) true s (by simp) a b
  | dstst s a b => exact row_dstst.decodeNat_touch (by decide) false s (by simp) a b
  | dststt s a b => exact row_dstst.decodeNat_touch (by decide) true s (by simp) a b
  | dss s => exact row_stop.decodeNat_stop (by decide) false s (by simp)
  | dssall => exact row_stop.decodeNat_stop (by decide) true 0 rfl
  | vmhaddshs d a b c | vmhraddshs d a b c | vmladduhm d a b c | vmsumubm d a b c | vmsummbm d a b c | vmsumuhm d a b c
  | vmsumuhs d a b c | vmsumshm d a b c | vmsumshs d a b c | vmaddfp d a b c | vnmsubfp d a b c | vsel d a b c | vperm d a b c =>
    exact Row.decodeNat_dabc d a b c (Row.va (by decide) fun w h => by rewrite [decodeVA, h]; rfl) (by decide)
  | vsldoi d a b c =>
    exact Row.decodeNat_sldoi d a b c (Row.va (by decide) fun w h => by rewrite [decodeVA, h]; rfl) (by decide)
  | vcmpequb d a b rc | vcmpequh d a b rc | vcmpequw d a b rc | vcmpgtub d a b rc | vcmpgtuh d a b rc | vcmpgtuw d a b rc
  | vcmpgtsb d a b rc | vcmpgtsh d a b rc | vcmpgtsw d a b rc | vcmpeqfp d a b rc | vcmpgefp d a b rc | vcmpgtfp d a b rc
  | vcmpbfp d a b rc =>
    exact Row.decodeNat_vxr d a b rc (Row.vxr (by decide) (by decide) fun w h => by rewrite [decodeVXR, h]; rfl) (by decide)
  | vaddubm d a b | vmaxub d a b | vmuloub d a b | vadduhm d a b | vmaxuh d a b | vmulouh d a b | vadduwm d a b | vmaxuw d a b
  | vmaxsb d a b | vmulosb d a b | vmaxsh d a b | vmulosh d a b | vaddcuw d a b | vmaxsw d a b | vrlb d a b | vrlh d a b
  | vrlw d a b | vslb d a b | vslh d a b | vslw d a b | vaddfp d a b | vsubfp d a b | vmrghb d a b | vpkuhum d a b | vmrghh d a b
  | vpkuwum d a b | vmrghw d a b | vpkuhus d a b | vpkuwus d a b | vmrglb d a b | vpkshus d a b | vmrglh d a b | vpkswus d a b
  | vmrglw d a b | vpkshss d a b | vsl d a b | vpkswss d a b =>
    exact (Row.vx (by decide) (by decide) fun w h hq => by rewrite [decodeVX, hq, decodeVX0, h]; rfl).decodeNat_dab
      (by decide) d a b
  | vaddubs d a b | vminub d a b | vmuleub d a b | vadduhs d a b | vminuh d a b | vmuleuh d a b | vadduws d a b | vminuw d a b
  | vaddsbs d a b | vminsb d a b | vmulesb d a b | vaddshs d a b | vminsh d a b | vmulesh d a b | vaddsws d a b | vminsw d a b
  | vsrb d a b | vsrh d a b | vsrw d a b | vsrab d a b | vsrah d a b | vsraw d a b | vsr d a b | vpkpx d a b =>
    exact (Row.vx (by decide) (by decide) fun w h hq => by rewrite [decodeVX, hq, decodeVX1, h]; rfl).decodeNat_dab
      (by decide) d a b
  | vsububm d a b | vavgub d a b | vsubuhm d a b | vavguh d a b | vsubuwm d a b | vavguw d a b | vavgsb d a b | vavgsh d a b
  | vsubcuw d a b | vavgsw d a b | vand d a b | vandc d a b | vor d a b | vxor d a b | vnor d a b | vmaxfp d a b | vminfp d a b
  | vslo d a b | vsro d a b =>
    exact (Row.vx (by decide) (by decide) fun w h hq => by rewrite [decodeVX, hq, decodeVX2, h]; rfl).decodeNat_dab
      (by decide) d a b
  | vsububs d a b | vsum4ubs d a b | vsubuhs d a b | vsum4shs d a b | vsubuws d a b | vsum2sws d a b | vsubsbs d a b
  | vsum4sbs d a b | vsubshs d a b | vsubsws d a b | vsumsws d a b =>
    exact (Row.vx (by decide) (by decide) fun w h hq => by rewrite [decodeVX, hq, decodeVX3, h]; rfl).decodeNat_dab
      (by decide) d a b
  | vrefp d b | vrsqrtefp d b | vexptefp d b | vlogefp d b =>
    exact (Row.vx (by decide) (by decide) fun w h hq => by rewrite [decodeVX, hq, decodeVX0, h]; rfl).decodeNat_db (by decide) d b
  | vrfin d b | vrfiz d b | vrfip d b | vrfim d b | vupkhsb d b | vupkhsh d b | vupklsb d b | vupklsh d b | vupkhpx d b
  | vupklpx d b =>
    exact (Row.vx (by decide) (by decide) fun w h hq => by rewrite [decodeVX, hq, decodeVX1, h]; rfl).decodeNat_db (by decide) d b
  | vcfux d u b | vcfsx d u b | vctuxs d u b | vctsxs d u b | vspltb d u b | vsplth d u b | vspltw d u b =>
    exact (Row.vx (by decide) (by decide) fun w h hq => by rewrite [decodeVX, hq, decodeVX1, h]; rfl).decodeNat_dub
      (by decide) d u b
  | vspltisb d u | vspltish d u | vspltisw d u =>
    exact (Row.vx (by decide) (by decide) fun w h hq => by rewrite [decodeVX, hq, decodeVX1, h]; rfl).decodeNat_ds (by decide) d u
  | mfvscr d =>
    exact (Row.vx (by decide) (by decide) fun w h hq => by rewrite [decodeVX, hq, decodeVX3, h]; rfl).decodeNat_d (by decide) d
  | mtvscr b =>
    exact (Row.vx (by decide) (by decide) fun w h hq => by rewrite [decodeVX, hq, decodeVX3, h]; rfl).decodeNat_b (by decide) b

/-- Only a word of 32 bits decodes to an instruction of the table. -/
theorem lt_of_decodeNat_instr {w : Nat} {i : Instr} (h : decodeNat w = .instr i) : w < 2 ^ 32 := by
  unfold decodeNat at h
  split at h
  · omega
  · split at h
    · omega
    · split at h <;> simp at h

theorem encode_toNat (i : Instr) : (encode i).toNat = encodeNat i :=
  Nat.mod_eq_of_lt (lt_of_decodeNat_instr (decodeNat_encodeNat i))

theorem wordOfBytes_of_toNat {w : Word} {b0 b1 b2 b3 : Byte} (h0 : b0.toNat = w.toNat / 2 ^ 24 % 256)
    (h1 : b1.toNat = w.toNat / 2 ^ 16 % 256) (h2 : b2.toNat = w.toNat / 2 ^ 8 % 256) (h3 : b3.toNat = w.toNat % 256) :
    wordOfBytes b0 b1 b2 b3 = w := by
  have hw := w.isLt
  refine BitVec.eq_of_toNat_eq ?_
  rw [wordOfBytes, BitVec.toNat_ofNat]
  omega

/-- The decoder reads the four bytes of a word as the word, whatever follows them. -/
theorem decode_bytesOfWord_append (w : Word) (rest : List Byte) : decode (bytesOfWord w ++ rest) = decodeWord w :=
  congrArg decodeWord (wordOfBytes_of_toNat (by simp [Nat.shiftRight_eq_div_pow]) (by simp [Nat.shiftRight_eq_div_pow])
    (by simp [Nat.shiftRight_eq_div_pow]) (by simp))

/-- Settles O1. The decoder reads the touches with rA field 0 too, so validity of the form is not needed. -/
theorem decodeOfEncode : Obligations.DecodeOfEncode := by
  unfold Obligations.DecodeOfEncode
  intro i rest _
  rw [encodeBytes, decode_bytesOfWord_append, decodeWord, encode_toNat, decodeNat_encodeNat]

/-! ## Encoding what was decoded -/

/-- Whatever instruction `d` is, but for dssall, the encoder writes `w` for it. -/
def EncodedBy (w : Nat) (d : Decoded) : Prop := ∀ i, d = .instr i → i ≠ .dssall → encodeNat i = w

section
variable {w : Nat}

@[simp] theorem encodedBy_instr {i : Instr} : EncodedBy w (.instr i) ↔ (i ≠ .dssall → encodeNat i = w) := by
  simp [EncodedBy]

@[simp] theorem encodedBy_base (b : BaseInstr) : EncodedBy w (.base b) := nofun
@[simp] theorem encodedBy_illegal : EncodedBy w .illegal := nofun
@[simp] theorem encodedBy_rejected (r : Rejection) : EncodedBy w (.rejected r) := nofun

@[simp] theorem encodedBy_reservedZero {z : Nat} {d : Decoded} : EncodedBy w (reservedZero z d) ↔ (z = 0 → EncodedBy w d) := by
  unfold reservedZero
  split <;> simp [*]

/-! What the layouts ask for that choose a row by bit 6, or have no row of the table. -/

@[simp] theorem encodedBy_layTouch {k kt : Fin 4 → Fin 32 → Fin 32 → Instr} : EncodedBy w (layTouch k kt w) ↔
    (w / 8388608 % 4 = 0 → (w / 33554432 % 2 = 1 → EncodedBy w (.instr (kt (fieldSTRM w) (fieldA w) (fieldB w)))) ∧
      (w / 33554432 % 2 ≠ 1 → EncodedBy w (.instr (k (fieldSTRM w) (fieldA w) (fieldB w))))) := by
  rw [layTouch, encodedBy_reservedZero, bit6]
  by_cases h : w / 33554432 % 2 = 1 <;> simp [h]

@[simp] theorem encodedBy_layStop : EncodedBy w (layStop w) ↔
    (w / 8388608 % 4 + w / 2048 % 1024 = 0 → w / 33554432 % 2 ≠ 1 → EncodedBy w (.instr (.dss (fieldSTRM w)))) := by
  rw [layStop, encodedBy_reservedZero, bit6]
  by_cases h : w / 33554432 % 2 = 1 <;> simp [h]

@[simp] theorem encodedBy_laySpr (c : Fin 32 → BaseInstr) : EncodedBy w (laySpr c w) := by
  unfold laySpr
  split <;> simp

/-! Every row of a table, its operands put back into their fields, is the word that was read. -/

section
variable (hop : w / 67108864 = 4)
include hop

theorem encodedBy_decodeVA : EncodedBy w (decodeVA w) := by
  unfold decodeVA
  split <;> simp [layDABC, laySldoi, encodeNat, packOp4] <;> omega

theorem encodedBy_decodeVXR : EncodedBy w (decodeVXR w) := by
  unfold decodeVXR
  split <;> simp [layVXR, encodeNat, packOp4] <;> omega

theorem encodedBy_decodeVX0 : EncodedBy w (decodeVX0 w) := by
  unfold decodeVX0
  split <;> simp [layDAB, layDB, encodeNat, packOp4] <;> omega

theorem encodedBy_decodeVX1 : EncodedBy w (decodeVX1 w) := by
  unfold decodeVX1
  split <;> simp [layDAB, layDB, layDUB, layDS, encodeNat, packOp4] <;> omega

theorem encodedBy_decodeVX2 : EncodedBy w (decodeVX2 w) := by
  unfold decodeVX2
  split <;> simp [layDAB, encodeNat, packOp4] <;> omega

theorem encodedBy_decodeVX3 : EncodedBy w (decodeVX3 w) := by
  unfold decodeVX3
  split <;> simp [layDAB, layD, layB, encodeNat, packOp4] <;> omega

theorem encodedBy_decodeVX : EncodedBy w (decodeVX w) := by
  unfold decodeVX
  split
  · exact encodedBy_decodeVX0 hop
  · exact encodedBy_decodeVX1 hop
  · exact encodedBy_decodeVX2 hop
  · exact encodedBy_decodeVX3 hop

theorem encodedBy_decodeOp4 : EncodedBy w (decodeOp4 w) := by
  unfold decodeOp4
  split
  · exact encodedBy_decodeVA hop
  · split
    · exact encodedBy_decodeVXR hop
    · exact encodedBy_decodeVX hop

end

theorem encodedBy_decodeOp31 (hop : w / 67108864 = 31) : EncodedBy w (decodeOp31 w) := by
  unfold decodeOp31
  split <;> simp [layDAB, encodeNat, packOp31] <;> omega

theorem encodedBy_decodeNat : EncodedBy w (decodeNat w) := by
  unfold decodeNat
  split
  · exact encodedBy_decodeOp4 ‹_›
  · split
    · exact encodedBy_decodeOp31 ‹_›
    · split <;> simp

end

/-- Settles O2: the encoder writes the number of the word, and a word is its number. -/
theorem encodeOfDecode : Obligations.EncodeOfDecode := by
  unfold Obligations.EncodeOfDecode
  intro w i hdec hi
  have hw : encodeNat i = w.toNat := encodedBy_decodeNat i hdec hi
  rw [encode, hw, BitVec.ofNat_toNat, BitVec.setWidth_eq]

/-! ## The words of the spec -/

/-- Settles O3, by evaluating the decoder on each word. -/
theorem decodeOfSpecWords : Obligations.DecodeOfSpecWords := by
  unfold Obligations.DecodeOfSpecWords
  decide

end Sys2Proof
end

/-! # Vector loads, stores and alignment controls (40_load_store.md R181 to R193)

Which byte of memory a load or store pairs with which byte of the register is said above, for the shared operations; what is added
here is what each of these operations leaves unchanged. -/
section
namespace Sys2Proof.Machine

/-! ## What a load leaves unchanged -/

/-- An element load and going on changes nothing but vD. -/
theorem State.loadElement_advance_wroteOnly (s : State) (n : Nat) (vD : VReg) (ea : Word) :
    WroteOnly vD s (s.loadElement n vD ea).advance :=
  ⟨⟨⟨rfl, rfl, rfl, rfl⟩, ⟨rfl, rfl, rfl, rfl, rfl⟩, fun _ h => State.readV_writeV_ne s _ h, fun _ => rfl, rfl⟩, rfl, rfl⟩

/-! ## What a store leaves unchanged -/

/-- An element store and going on changes nothing but memory. -/
theorem State.storeElement_advance_wroteMemory (s : State) (n : Nat) (vS : VReg) (ea : Word) :
    WroteMemory s (s.storeElement n vS ea).advance := by
  simp [WroteMemory, Completed, RegistersKept]

/-- A quad-word store and going on changes nothing but memory. -/
theorem State.storeQuad_advance_wroteMemory (s : State) (ea : Word) (q : Quad) : WroteMemory s (s.storeQuad ea q).advance := by
  simp [WroteMemory, Completed, RegistersKept]

/-- An element store changes only the bytes that the program sees at its operand (R105, R106, R110). -/
theorem State.byte_storeElement_ne (s : State) {n : Nat} (hn : n ∣ 8) (vS : VReg) {ea : Word} (ha : n ∣ ea.toNat) {x : Word}
    (hx : ∀ j, j < n → x ≠ s.bus (ea + BitVec.ofNat 32 j)) : (s.storeElement n vS ea).byte x = s.byte x := by
  refine s.byte_memWrite_ne _ n _ x fun i hi => ?_
  rw [s.munge_add hn ha hi]
  exact hx _ (s.mirror_lt hi)

/-- The address of a double word is not modified, so its bytes are the same in memory as the program sees them, up to their order
(R106, R110). -/
theorem State.doubleWord_add (s : State) {a : Word} (ha : 8 ∣ a.toNat) {i : Nat} (hi : i < 8) :
    a + BitVec.ofNat 32 i = s.bus (a + BitVec.ofNat 32 (s.mirror 8 i)) := by
  rw [← s.munge_add (Nat.dvd_refl 8) ha hi]
  simp [State.munge]

/-- A quad-word store changes only the bytes that the program sees at the quad word (R105, R108, R110). -/
theorem State.byte_storeQuad_ne (s : State) {ea : Word} (ha : 16 ∣ ea.toNat) (q : Quad) {x : Word}
    (hx : ∀ j, j < 16 → x ≠ s.bus (ea + BitVec.ofNat 32 j)) : (s.storeQuad ea q).byte x = s.byte x := by
  have hlow (i : Nat) (hi : i < 8) : x ≠ ea + BitVec.ofNat 32 i := by
    have hj := s.mirror_lt hi
    rw [s.doubleWord_add (by omega) hi]
    exact hx _ (by omega)
  have hhigh (i : Nat) (hi : i < 8) : x ≠ ea + 8 + BitVec.ofNat 32 i := by
    have hj := s.mirror_lt hi
    have hne := hx (8 + s.mirror 8 i) (by omega)
    rw [s.doubleWord_add (by bv_omega) hi]
    rwa [BitVec.ofNat_add, ← BitVec.add_assoc] at hne
  unfold State.storeQuad
  split
  · rw [State.byte_memWrite_ne _ _ _ _ _ hhigh, State.byte_memWrite_ne _ _ _ _ _ hlow]
  · next hbe =>
    refine s.byte_memWrite_ne ea 16 q x fun j hj => ?_
    simpa [State.bus, hbe] using hx j hj

/-! ## The statements -/

/-- Settles O17: both instructions write to vD what `State.elem_loadQuad` describes. -/
theorem quadWordLoads : Obligations.QuadWordLoads := by
  unfold Obligations.QuadWordLoads
  intro s vD rA rB hv
  have hbytes (j : Nat) (hj : j < 16) : elem 8 (s.regByte j) ((s.writeV vD (s.loadQuad (s.ea 16 rA rB))).advance.readV vD) =
      s.byte (s.bus (s.ea 16 rA rB + BitVec.ofNat 32 j)) := by
    simpa using s.elem_loadQuad (s.dvd_ea (Nat.dvd_refl 16) rA rB) hj
  simp only [List.forall_mem_cons]
  refine ⟨?lvx, ?lvxl, by simp⟩
  case lvx => exact ⟨_, accessStep_vec hv _ _ _, hbytes, s.writeV_advance_wroteOnly vD _⟩
  case lvxl => exact ⟨_, accessStep_vec hv _ _ _, hbytes, s.writeV_advance_wroteOnly vD _⟩

/-- Settles O18: the quad word holds the register's bytes, and the store goes nowhere else. -/
theorem quadWordStores : Obligations.QuadWordStores := by
  unfold Obligations.QuadWordStores
  intro s vS rA rB hv hm
  have ha := s.dvd_ea (Nat.dvd_refl 16) rA rB
  have hbytes (j : Nat) (hj : j < 16) := State.byte_storeQuad hm ha (s.readV vS) hj
  have hframe (x : Word) := s.byte_storeQuad_ne ha (s.readV vS) (x := x)
  simp only [List.forall_mem_cons]
  refine ⟨?stvx, ?stvxl, by simp⟩
  case stvx => exact ⟨_, accessStep_vec hv _ _ _, hbytes, hframe, s.storeQuad_advance_wroteMemory _ _⟩
  case stvxl => exact ⟨_, accessStep_vec hv _ _ _, hbytes, hframe, s.storeQuad_advance_wroteMemory _ _⟩

/-- Settles O19: one argument for the three sizes, each a divisor of 8. -/
theorem elementLoads : Obligations.ElementLoads := by
  unfold Obligations.ElementLoads
  intro s vD rA rB hv
  have hload (n : Nat) (hn : n ∣ 8) (j : Nat) (hj : j < n) :=
    s.elem_loadElement_byte hn vD (s.dvd_ea (hn.trans (by decide)) rA rB) hj
  simp only [List.forall_mem_cons]
  refine ⟨?lvebx, ?lvehx, ?lvewx, by simp⟩
  case lvebx => exact ⟨_, accessStep_vec hv _ _ _, hload 1 (by decide), s.loadElement_advance_wroteOnly 1 vD _⟩
  case lvehx => exact ⟨_, accessStep_vec hv _ _ _, hload 2 (by decide), s.loadElement_advance_wroteOnly 2 vD _⟩
  case lvewx => exact ⟨_, accessStep_vec hv _ _ _, hload 4 (by decide), s.loadElement_advance_wroteOnly 4 vD _⟩

/-- Settles O20: the operand holds the element's bytes, and the store goes nowhere else; one argument for the three sizes. -/
theorem elementStores : Obligations.ElementStores := by
  unfold Obligations.ElementStores
  intro s vS rA rB hv hm
  have ha (n : Nat) (hn : n ∣ 8) : n ∣ (s.ea n rA rB).toNat := s.dvd_ea (hn.trans (by decide)) rA rB
  have hbytes (n : Nat) (hn : n ∣ 8) (j : Nat) (hj : j < n) := State.byte_storeElement hm hn vS (ha n hn) hj
  have hframe (n : Nat) (hn : n ∣ 8) (x : Word) := s.byte_storeElement_ne hn vS (ha n hn) (x := x)
  have hregs (n : Nat) := s.storeElement_advance_wroteMemory n vS (s.ea n rA rB)
  simp only [List.forall_mem_cons]
  refine ⟨?stvebx, ?stvehx, ?stvewx, by simp⟩
  case stvebx => exact ⟨_, accessStep_vec hv _ _ _, hbytes 1 (by decide), hframe 1 (by decide), hregs 1⟩
  case stvehx => exact ⟨_, accessStep_vec hv _ _ _, hbytes 2 (by decide), hframe 2 (by decide), hregs 2⟩
  case stvewx => exact ⟨_, accessStep_vec hv _ _ _, hbytes 4 (by decide), hframe 4 (by decide), hregs 4⟩

/-- Settles O22: vD is built byte by byte from the shift, which is the sum's low four bits in either byte order. -/
theorem alignmentControls : Obligations.AlignmentControls := by
  unfold Obligations.AlignmentControls
  intro s vD rA rB hv
  exact ⟨.of_build (by decide) (by decide) hv rfl, .of_build (by decide) (by decide) hv rfl⟩

end Sys2Proof.Machine
end

/-! # Vector integer arithmetic (41_int_arith.md R220 to R285)

A meaning computes an element exactly, on integers, and brings the integer into the element; a statement speaks of the arithmetic of
words, or of the integer clamped to its range. What relates the two is said once for each way of bringing an integer into an element. -/
section
namespace Sys2Proof.Machine

/-! ## The low-order bits of an exact value (R222): `modulo` commutes with the arithmetic of words -/

@[simp] theorem modulo_add (n : Nat) (x y : Int) : modulo n (x + y) = modulo n x + modulo n y := BitVec.ofInt_add x y

@[simp] theorem modulo_mul (n : Nat) (x y : Int) : modulo n (x * y) = modulo n x * modulo n y := BitVec.ofInt_mul x y

@[simp] theorem modulo_sub (n : Nat) (x y : Int) : modulo n (x - y) = modulo n x - modulo n y := by
  rw [Int.sub_eq_add_neg, modulo_add, BitVec.sub_eq_add_neg]
  exact congrArg (modulo n x + ·) BitVec.ofInt_neg

/-- An unsigned element in another width is extended with zeros, or cut off. -/
@[simp] theorem modulo_ui {m : Nat} (n : Nat) (a : BitVec m) : modulo n (ui a) = a.setWidth n :=
  (BitVec.ofInt_natCast n a.toNat).trans (BitVec.ofNat_toNat n a)

/-- A signed element in a greater width is extended with its sign. -/
theorem modulo_si {m : Nat} (n : Nat) (a : BitVec m) : modulo n (si a) = a.signExtend n := rfl

/-- A signed element in its own width is itself. -/
@[simp] theorem modulo_si_self {n : Nat} (a : BitVec n) : modulo n (si a) = a := BitVec.ofInt_toInt

/-- The average of unsigned elements, on integers and on natural numbers (R268 to R270). -/
theorem modulo_average_ui {n : Nat} (a b : BitVec n) :
    modulo n ((ui a + ui b + 1) / 2) = BitVec.ofNat n ((a.toNat + b.toNat + 1) / 2) := by
  have h : (ui a + ui b + 1) / 2 = ((a.toNat + b.toNat + 1) / 2 : Nat) := by simp [ui]
  rw [h]
  exact BitVec.ofInt_natCast n _

/-! ## The order of elements (R274 to R285) -/

@[simp] theorem ui_lt_ui {n : Nat} (a b : BitVec n) : ui a < ui b ↔ a < b := Int.ofNat_lt

@[simp] theorem si_lt_si {n : Nat} (a b : BitVec n) : si a < si b ↔ a.slt b = true := BitVec.slt_iff_toInt_lt.symm

/-- The unsigned maximum, decided by either comparison. -/
theorem ite_ui_ge {n : Nat} (a b : BitVec n) : (if ui a ≥ ui b then a else b) = if a < b then b else a := by
  simp only [ge_iff_le, ← not_lt, ui_lt_ui, ite_not]

/-- The unsigned minimum. -/
theorem ite_ui_lt {n : Nat} (a b : BitVec n) : (if ui a < ui b then a else b) = if a < b then a else b := by
  simp only [ui_lt_ui]

/-- The signed maximum, decided by either comparison. -/
theorem ite_si_ge {n : Nat} (a b : BitVec n) : (if si a ≥ si b then a else b) = if a.slt b then b else a := by
  simp only [ge_iff_le, ← not_lt, si_lt_si, ite_not]

/-- The signed minimum. -/
theorem ite_si_lt {n : Nat} (a b : BitVec n) : (if si a < si b then a else b) = if a.slt b then a else b := by
  simp only [si_lt_si]

/-! ## Carry and borrow of words (R226, R236) -/

/-- The carry is 0 where the sum fits. -/
theorem carry_eq (a b : Word) :
    (if ui a + ui b ≥ 2 ^ 32 then 1 else 0 : Word) = if a.toNat + b.toNat < 2 ^ 32 then 0 else 1 := by
  have h : ui a + ui b ≥ 2 ^ 32 ↔ ¬ a.toNat + b.toNat < 2 ^ 32 := by unfold ui; omega
  simp only [h, ite_not]

/-- The carry out of `a + ¬b + 1` is 0 where the difference borrows. -/
theorem borrow_eq (a b : Word) :
    (if ui a + ui (~~~b) + 1 ≥ 2 ^ 32 then 1 else 0 : Word) = if a.toNat < b.toNat then 0 else 1 := by
  have hb := b.isLt
  have h : ui a + ui (~~~b) + 1 ≥ 2 ^ 32 ↔ ¬ a.toNat < b.toNat := by unfold ui; rw [BitVec.toNat_not]; omega
  simp only [h, ite_not]

/-! ## Sums over the parts of a word (R257 to R267) -/

theorem sumBelow_two (f : Nat → Int) : sumBelow f 2 = f 0 + f 1 := by simp [sumBelow]

theorem sumBelow_four (f : Nat → Int) : sumBelow f 4 = f 0 + f 1 + f 2 + f 3 := by simp [sumBelow]

/-! ## Saturation (R223 to R225) -/

/-- Zero is in the range of every width. -/
theorem satSigned_zero (n : Nat) : satSigned n 0 = (0, false) := by
  have hp : (1 : Int) ≤ 2 ^ (n - 1) := by exact_mod_cast Nat.one_le_two_pow
  rw [satSigned, if_neg (by omega), if_neg (by omega)]
  exact congrArg (·, false) (BitVec.ofInt_natCast n 0)

/-- An integer in the signed range of `n` bits is the value of its low-order bits. -/
theorem toInt_ofInt_of_range {n : Nat} (hn : 0 < n) {x : Int} (hlo : -2 ^ (n - 1) ≤ x) (hhi : x ≤ 2 ^ (n - 1) - 1) :
    (BitVec.ofInt n x).toInt = x :=
  BitVec.toInt_ofInt_eq_self hn hlo (by omega)

/-- The three cases of `satUnsigned` (R223, R224). -/
theorem satUnsigned_cases (n : Nat) (x : Int) :
    (2 ^ n - 1 < x → satUnsigned n x = (BitVec.allOnes n, true)) ∧ (x < 0 → satUnsigned n x = (0, true)) ∧
      (0 ≤ x → x ≤ 2 ^ n - 1 → (satUnsigned n x).2 = false ∧ ((satUnsigned n x).1.toNat : Int) = x) := by
  have hp : (1 : Int) ≤ 2 ^ n := by exact_mod_cast Nat.one_le_two_pow
  unfold satUnsigned
  refine ⟨fun h => if_pos h, fun h => ?below, fun hlo hhi => ?inside⟩
  case below => rw [if_neg (by omega), if_pos h]
  case inside =>
    rw [if_neg (by omega), if_neg (by omega)]
    refine ⟨rfl, ?_⟩
    rw [BitVec.toNat_ofInt, Int.emod_eq_of_lt hlo (by push_cast; omega), Int.toNat_of_nonneg hlo]

/-- The three cases of `satSigned` (R225). -/
theorem satSigned_cases (n : Nat) (x : Int) (hn : 0 < n) :
    (2 ^ (n - 1) - 1 < x → (satSigned n x).2 = true ∧ (satSigned n x).1.toInt = 2 ^ (n - 1) - 1) ∧
      (x < -2 ^ (n - 1) → (satSigned n x).2 = true ∧ (satSigned n x).1.toInt = -2 ^ (n - 1)) ∧
      (-2 ^ (n - 1) ≤ x → x ≤ 2 ^ (n - 1) - 1 → (satSigned n x).2 = false ∧ (satSigned n x).1.toInt = x) := by
  have hp : (1 : Int) ≤ 2 ^ (n - 1) := by exact_mod_cast Nat.one_le_two_pow
  unfold satSigned
  refine ⟨fun h => ?above, fun h => ?below, fun hlo hhi => ?inside⟩
  case above =>
    rw [if_pos h]
    exact ⟨rfl, toInt_ofInt_of_range hn (by omega) (by omega)⟩
  case below =>
    rw [if_neg (by omega), if_pos h]
    exact ⟨rfl, toInt_ofInt_of_range hn (by omega) (by omega)⟩
  case inside =>
    rw [if_neg (by omega), if_neg (by omega)]
    exact ⟨rfl, toInt_ofInt_of_range hn hlo hhi⟩

/-- SAT after a saturating write (10_state.md R46). -/
theorem State.sat_writeSat (s : State) (r : VReg) (d : Quad × Bool) : (s.writeSat r d).sat = (s.sat || d.2) := by
  rw [State.sat_eq, State.sat_eq, State.writeSat_vscr]
  cases d.2 <;> simp [wordBit_or_satMask]

/-! ## From a meaning to the elements it gives -/

/-- A meaning that writes a vector built element by element, with the elements in the form of the statement. -/
theorem Gives.of_elements {i : Instr} {s : State} {vD : VReg} {n : Nat} {f g : Nat → BitVec n} (hv : s.vec = true)
    (he : exec i s = vectorStep s (s.writeV vD (build n f))) (hfg : ∀ k, f k = g k) (hn : n ∣ 128 := by decide)
    (h0 : 0 < n := by decide) : Gives i s vD n g :=
  (Gives.of_build hn h0 hv he).congr fun k _ => hfg k

/-- The same with unsigned saturation. -/
theorem GivesUnsigned.of_elements {i : Instr} {s : State} {vD : VReg} {n : Nat} {f : Nat → BitVec n × Bool} {x : Nat → Int}
    (hv : s.vec = true) (he : exec i s = vectorStep s (s.writeSat vD (buildSat n f)))
    (hf : ∀ k, k < 128 / n → f k = satUnsigned n (x k)) (hn : n ∣ 128 := by decide) (h0 : 0 < n := by decide) :
    GivesUnsigned i s vD n x :=
  GivesClamped.of_buildSat hn h0 hv he fun k hk => (hf k hk).trans (satUnsigned_eq n (x k))

/-- The same with signed saturation. -/
theorem GivesSigned.of_elements {i : Instr} {s : State} {vD : VReg} {n : Nat} {f : Nat → BitVec n × Bool} {x : Nat → Int}
    (hv : s.vec = true) (he : exec i s = vectorStep s (s.writeSat vD (buildSat n f)))
    (hf : ∀ k, k < 128 / n → f k = satSigned n (x k)) (hn : n ∣ 128 := by decide) (h0 : 0 < n := by decide) :
    GivesSigned i s vD n x :=
  GivesClamped.of_buildSat hn h0 hv he fun k hk => (hf k hk).trans (satSigned_eq n (x k))

/-! ## The statements -/

/-- Settles O23: the exact sum or difference modulo 2^n is that of the words, and carry and borrow are comparisons. -/
theorem addSubtractModulo : Obligations.AddSubtractModulo := by
  unfold Obligations.AddSubtractModulo
  intro s vD vA vB hv A B
  have hadd {n : Nat} (a b : BitVec n) : modulo n (ui a + ui b) = a + b := by simp
  have hsub {n : Nat} (a b : BitVec n) : modulo n (ui a - ui b) = a - b := by simp
  refine ⟨?vaddubm, ?vadduhm, ?vadduwm, ?vsububm, ?vsubuhm, ?vsubuwm, ?vaddcuw, ?vsubcuw⟩
  case vaddubm | vadduhm | vadduwm => exact .of_elements hv rfl fun _ => hadd _ _
  case vsububm | vsubuhm | vsubuwm => exact .of_elements hv rfl fun _ => hsub _ _
  case vaddcuw => exact .of_elements hv rfl fun _ => carry_eq _ _
  case vsubcuw => exact .of_elements hv rfl fun _ => borrow_eq _ _

/-- Settles O24: each meaning saturates the very sum or difference of the statement. -/
theorem addSubtractSaturate : Obligations.AddSubtractSaturate := by
  unfold Obligations.AddSubtractSaturate
  intro s vD vA vB hv A B
  refine ⟨?vaddubs, ?vaddsbs, ?vadduhs, ?vaddshs, ?vadduws, ?vaddsws, ?vsububs, ?vsubsbs, ?vsubuhs, ?vsubshs, ?vsubuws, ?vsubsws⟩
  case vaddubs | vadduhs | vadduws | vsububs | vsubuhs | vsubuws => exact .of_elements hv rfl fun _ _ => rfl
  case vaddsbs | vaddshs | vaddsws | vsubsbs | vsubshs | vsubsws => exact .of_elements hv rfl fun _ _ => rfl

/-- Settles O25: which of two elements is taken depends on their order alone. -/
theorem maximumMinimum : Obligations.MaximumMinimum := by
  unfold Obligations.MaximumMinimum
  intro s vD vA vB hv A B
  refine ⟨?vmaxub, ?vminub, ?vmaxsb, ?vminsb, ?vmaxuh, ?vminuh, ?vmaxsh, ?vminsh, ?vmaxuw, ?vminuw, ?vmaxsw, ?vminsw⟩
  case vmaxub | vmaxuh | vmaxuw => exact .of_elements hv rfl fun _ => ite_ui_ge _ _
  case vminub | vminuh | vminuw => exact .of_elements hv rfl fun _ => ite_ui_lt _ _
  case vmaxsb | vmaxsh | vmaxsw => exact .of_elements hv rfl fun _ => ite_si_ge _ _
  case vminsb | vminsh | vminsw => exact .of_elements hv rfl fun _ => ite_si_lt _ _

/-- Settles O26: the signed averages are the statement's own integers, the unsigned ones the same natural numbers. -/
theorem averages : Obligations.Averages := by
  unfold Obligations.Averages
  intro s vD vA vB hv A B
  refine ⟨?vavgub, ?vavgsb, ?vavguh, ?vavgsh, ?vavguw, ?vavgsw⟩
  case vavgub | vavguh | vavguw => exact .of_elements hv rfl fun _ => modulo_average_ui _ _
  case vavgsb | vavgsh | vavgsw => exact .of_elements hv rfl fun _ => rfl

/-- Settles O27: the product in the double width is that of the extended elements. -/
theorem multiplyEvenOdd : Obligations.MultiplyEvenOdd := by
  unfold Obligations.MultiplyEvenOdd
  intro s vD vA vB hv A B
  have hu {m : Nat} (n : Nat) (a b : BitVec m) : modulo n (ui a * ui b) = a.setWidth n * b.setWidth n := by simp
  have hs {m : Nat} (n : Nat) (a b : BitVec m) : modulo n (si a * si b) = a.signExtend n * b.signExtend n := by
    simp [modulo_si]
  refine ⟨?vmuleub, ?vmulesb, ?vmuleuh, ?vmulesh, ?vmuloub, ?vmulosb, ?vmulouh, ?vmulosh⟩
  case vmuleub | vmuleuh | vmuloub | vmulouh => exact .of_elements hv rfl fun _ => hu _ _ _
  case vmulesb | vmulesh | vmulosb | vmulosh => exact .of_elements hv rfl fun _ => hs _ _ _

/-- Settles O28: the saturating forms saturate the statement's own value, and `modulo` passes through the product and the sum. -/
theorem multiplyAdd : Obligations.MultiplyAdd := by
  unfold Obligations.MultiplyAdd
  intro s vD vA vB vC hv A B C
  refine ⟨?vmhaddshs, ?vmhraddshs, ?vmladduhm⟩
  case vmhaddshs => exact .of_elements hv rfl fun _ _ => rfl
  case vmhraddshs => exact .of_elements hv rfl fun _ _ => rfl
  case vmladduhm => exact .of_elements hv rfl fun k => by simp [A, B, C]

/-- Settles O29: the sums written out, `modulo` passed through sums and products, and the saturated values equal. -/
theorem multiplySum : Obligations.MultiplySum := by
  unfold Obligations.MultiplySum
  intro s vD vA vB vC hv A B C
  refine ⟨?vmsumubm, ?vmsummbm, ?vmsumuhm, ?vmsumshm, ?vmsumuhs, ?vmsumshs⟩
  case vmsumubm => exact .of_elements hv rfl fun k => by simp [sumBelow_four, A, B, C]
  case vmsummbm => exact .of_elements hv rfl fun k => by simp [sumBelow_four, modulo_si, A, B, C]
  case vmsumuhm => exact .of_elements hv rfl fun k => by simp [sumBelow_two, A, B, C]
  case vmsumshm => exact .of_elements hv rfl fun k => by simp [sumBelow_two, modulo_si, A, B, C]
  case vmsumuhs => exact .of_elements hv rfl fun k _ => by simp [sumBelow_two, ui, A, B, C]
  case vmsumshs => exact .of_elements hv rfl fun k _ => by simp [sumBelow_two, si, A, B, C]

/-- Settles O30: the sums written out; a cleared word is the saturation of 0. -/
theorem sumAcross : Obligations.SumAcross := by
  unfold Obligations.SumAcross
  intro s vD vA vB hv A B
  refine ⟨?vsum4ubs, ?vsum4sbs, ?vsum4shs, ?vsum2sws, ?vsumsws⟩
  case vsum4ubs => exact .of_elements hv rfl fun k _ => by simp [sumBelow_four, ui, A, B]
  case vsum4sbs => exact .of_elements hv rfl fun k _ => by simp [sumBelow_four, si, A, B]
  case vsum4shs => exact .of_elements hv rfl fun k _ => by simp [sumBelow_two, si, A, B]
  case vsum2sws =>
    refine .of_elements hv rfl fun k hk => ?_
    have hodd : k % 2 = 1 ↔ k = 1 ∨ k = 3 := by omega
    simp only [hodd, apply_ite (satSigned 32), satSigned_zero]
    rfl
  case vsumsws =>
    refine .of_elements hv rfl fun k _ => ?_
    rw [apply_ite (satSigned 32), satSigned_zero, sumBelow_four, add_comm]
    rfl

/-- Settles O44: the cases of the two conversions, the elements and the accumulator of `buildSat`, and the write of both. -/
theorem saturatingConversions : Obligations.SaturatingConversions := by
  unfold Obligations.SaturatingConversions
  refine ⟨satUnsigned_cases, satSigned_cases, fun n f h0 hn => ⟨anyBelow_iff _ _, fun k hk => ?element⟩, fun s r d => ?write⟩
  case element => exact elem_build n _ k (Nat.dvd_of_mod_eq_zero hn) h0 hk
  case write => exact ⟨State.readV_of_vr_set (s.writeSat_vr r d), s.sat_writeSat r d⟩

end Sys2Proof.Machine
end

/-! # Vector integer compares, logical operations, rotates and shifts (42_int_cmp_logic_shift.md R300 to R332)

The test of a compare decides the statement's relation on the same elements. A logical operation acts on the whole quad word, and an
element of its result is the operation on the elements. Rotates and shifts count modulo the width, as the statement does, so that
only the algebraic shift, stated as a rounded division, needs a lemma. -/
section
namespace Sys2Proof.Machine

/-! ## Compares (R301) -/

/-- A meaning that writes the truth of a test, element by element, with the test deciding the relation of the statement. -/
theorem GivesCompare.of_elements {i : Instr} {s : State} {vD : VReg} {rc : Bool} {n : Nat} {p : Nat → Bool} {P : Nat → Prop}
    (hv : s.vec = true) (he : exec i s = vectorStep s (s.writeCompare vD rc (build n fun k => truth n (p k))))
    (hp : ∀ k, p k = true ↔ P k) (hn : n ∣ 128 := by decide) (h0 : 0 < n := by decide) : GivesCompare i s vD rc n P :=
  .of_truth hn h0 hv he fun k _ => hp k

/-- The unsigned order of elements, tested on integers, is that of natural numbers (R306 to R308). -/
theorem decide_ui_gt_iff {n : Nat} (a b : BitVec n) : decide (ui a > ui b) = true ↔ a.toNat > b.toNat :=
  decide_eq_true_iff.trans Int.ofNat_lt

/-! ## An element of a logical combination (R313 to R317) -/

@[simp] theorem elem_and (n k : Nat) (v w : Quad) : elem n k (v &&& w) = elem n k v &&& elem n k w := BitVec.extractLsb'_and

@[simp] theorem elem_or (n k : Nat) (v w : Quad) : elem n k (v ||| w) = elem n k v ||| elem n k w := BitVec.extractLsb'_or

@[simp] theorem elem_xor (n k : Nat) (v w : Quad) : elem n k (v ^^^ w) = elem n k v ^^^ elem n k w := BitVec.extractLsb'_xor

/-- The complement, for an element whose bits all lie in the quad word. -/
theorem elem_not {n k : Nat} (hk : k < 128 / n) (v : Quad) : elem n k (~~~v) = ~~~(elem n k v) := by
  rw [← BitVec.xor_allOnes, elem_xor, elem_allOnes n k hk, BitVec.xor_allOnes]

/-! ## The algebraic shift (R328 to R330) -/

/-- The algebraic shift divides by a power of two and rounds down. -/
theorem sshiftRight_eq_ofInt_div {n : Nat} (a : BitVec n) (c : Nat) : a.sshiftRight c = BitVec.ofInt n (a.toInt / 2 ^ c) := by
  rw [BitVec.sshiftRight, Int.shiftRight_eq_div_pow]
  push_cast
  rfl

/-! ## The statements -/

/-- Settles O31: the test of each compare decides the statement's relation, which `GivesCompare.of_truth` takes to vD and CR. -/
theorem integerCompares : Obligations.IntegerCompares := by
  unfold Obligations.IntegerCompares
  intro s vD vA vB rc hv A B
  refine ⟨?vcmpequb, ?vcmpgtub, ?vcmpgtsb, ?vcmpequh, ?vcmpgtuh, ?vcmpgtsh, ?vcmpequw, ?vcmpgtuw, ?vcmpgtsw⟩
  case vcmpequb | vcmpequh | vcmpequw => exact .of_elements hv rfl fun _ => beq_iff_eq
  case vcmpgtub | vcmpgtuh | vcmpgtuw => exact .of_elements hv rfl fun _ => decide_ui_gt_iff _ _
  case vcmpgtsb | vcmpgtsh | vcmpgtsw => exact .of_elements hv rfl fun _ => decide_eq_true_iff

/-- Settles O32: each bit, taken as an element of width 1, passes through the operation on the quad word. -/
theorem logicalOperations : Obligations.LogicalOperations := by
  unfold Obligations.LogicalOperations
  intro s vD vA vB hv A B
  refine ⟨?vand, ?vandc, ?vor, ?vxor, ?vnor⟩
  case vand => exact (Gives.of_quad 1 hv rfl).congr fun k _ => elem_and 1 k A B
  case vandc => exact (Gives.of_quad 1 hv rfl).congr fun k hk => by rw [elem_and, elem_not hk]
  case vor => exact (Gives.of_quad 1 hv rfl).congr fun k _ => elem_or 1 k A B
  case vxor => exact (Gives.of_quad 1 hv rfl).congr fun k _ => elem_xor 1 k A B
  case vnor => exact (Gives.of_quad 1 hv rfl).congr fun k hk => by rw [elem_not hk, elem_or]

/-- Settles O33: `shiftCount` is the statement's count modulo the width, and the algebraic shift its rounded division. -/
theorem rotatesAndShifts : Obligations.RotatesAndShifts := by
  unfold Obligations.RotatesAndShifts
  intro s vD vA vB hv A B
  refine ⟨?vrlb, ?vslb, ?vsrb, ?vsrab, ?vrlh, ?vslh, ?vsrh, ?vsrah, ?vrlw, ?vslw, ?vsrw, ?vsraw⟩
  case vrlb | vrlh | vrlw => exact .of_elements hv rfl fun _ => rfl
  case vslb | vslh | vslw => exact .of_elements hv rfl fun _ => rfl
  case vsrb | vsrh | vsrw => exact .of_elements hv rfl fun _ => rfl
  case vsrab | vsrah | vsraw => exact .of_elements hv rfl fun _ => sshiftRight_eq_ofInt_div _ _

end Sys2Proof.Machine
end

/-! # Single-precision numbers (43_float.md R361)

A word is a sign and 31 bits below it, and everything the format says of it is said of these: its class by comparing the bits with
three bounds, its magnitude by `bitsMag`, which rises with the bits. Rounding, order and the choice between neighbours are then
arithmetic on natural numbers. -/
section
namespace Sys2Proof.Machine

/-! ## The sign and the bits below it -/

/-- The 31 bits below the sign: exponent and fraction. -/
def fpBits (w : Word) : Nat := w.toNat % 2147483648

theorem fpBits_lt (w : Word) : fpBits w < 2147483648 := Nat.mod_lt _ (by decide)

theorem fpSign_eq (w : Word) : fpSign w = decide (2147483648 ≤ w.toNat) := BitVec.msb_eq_decide w

theorem fpExp_eq (w : Word) : fpExp w = fpBits w / 8388608 := by
  rw [fpExp, fpBits, BitVec.extractLsb'_toNat, Nat.shiftRight_eq_div_pow]
  omega

theorem fpFrac_eq (w : Word) : fpFrac w = fpBits w % 8388608 := by
  rw [fpFrac, fpBits, BitVec.extractLsb'_toNat, Nat.shiftRight_eq_div_pow]
  omega

/-- A word is its sign and its bits. -/
theorem toNat_eq_sign_add_bits (w : Word) : w.toNat = (if fpSign w then 2147483648 else 0) + fpBits w := by
  have hw := w.isLt
  rw [fpSign_eq, fpBits]
  split <;> simp_all <;> omega

theorem eq_of_sign_bits {v w : Word} (hs : fpSign v = fpSign w) (hb : fpBits v = fpBits w) : v = w := by
  apply BitVec.eq_of_toNat_eq
  rw [toNat_eq_sign_add_bits v, toNat_eq_sign_add_bits w, hs, hb]

section
variable (s : Bool) {m : Nat} (hm : m < 2147483648)
include hm

theorem toNat_fpPack : (fpPack s m).toNat = (if s then 2147483648 else 0) + m := by
  rw [fpPack, BitVec.toNat_ofNat, Nat.mod_eq_of_lt]
  split <;> omega

theorem fpSign_fpPack : fpSign (fpPack s m) = s := by
  rw [fpSign_eq, toNat_fpPack s hm]
  cases s <;> simp [hm]

theorem fpBits_fpPack : fpBits (fpPack s m) = m := by
  rw [fpBits, toNat_fpPack s hm]
  cases s <;> simp [Nat.mod_eq_of_lt hm]

end

@[simp] theorem fpSign_fpZero (s : Bool) : fpSign (fpZero s) = s := fpSign_fpPack s (by decide)
@[simp] theorem fpBits_fpZero (s : Bool) : fpBits (fpZero s) = 0 := fpBits_fpPack s (by decide)
@[simp] theorem fpSign_fpInf (s : Bool) : fpSign (fpInf s) = s := fpSign_fpPack s (by decide)
@[simp] theorem fpBits_fpInf (s : Bool) : fpBits (fpInf s) = 0x7F800000 := fpBits_fpPack s (by decide)

@[simp] theorem fpSign_fpNeg (w : Word) : fpSign (fpNeg w) = !fpSign w := by
  simp [fpSign, fpNeg, wordBit]

@[simp] theorem fpBits_fpNeg (w : Word) : fpBits (fpNeg w) = fpBits w := by
  have h (v : Word) : fpBits v = (v.extractLsb' 0 31).toNat := by simp [fpBits, BitVec.extractLsb'_toNat]
  simp [h, fpNeg, BitVec.extractLsb'_xor]

@[simp] theorem fpNeg_fpPack {s : Bool} {m : Nat} (hm : m < 2147483648) : fpNeg (fpPack s m) = fpPack (!s) m :=
  eq_of_sign_bits (by simp [fpSign_fpPack _ hm]) (by simp [fpBits_fpPack _ hm])

@[simp] theorem fpNeg_fpZero (s : Bool) : fpNeg (fpZero s) = fpZero (!s) := fpNeg_fpPack (by decide)

/-! ## The classes of words, by their bits -/

theorem fpIsNaN_iff (w : Word) : fpIsNaN w = true ↔ 0x7F800000 < fpBits w := by
  have h := fpBits_lt w
  rw [fpIsNaN, fpExp_eq, fpFrac_eq, Bool.and_eq_true, beq_iff_eq, bne_iff_ne]
  omega

theorem fpIsInf_iff (w : Word) : fpIsInf w = true ↔ fpBits w = 0x7F800000 := by
  rw [fpIsInf, fpExp_eq, fpFrac_eq, Bool.and_eq_true, beq_iff_eq, beq_iff_eq]
  omega

theorem fpIsZero_iff (w : Word) : fpIsZero w = true ↔ fpBits w = 0 := by
  rw [fpIsZero, fpExp_eq, fpFrac_eq, Bool.and_eq_true, beq_iff_eq, beq_iff_eq]
  omega

theorem fpIsDenorm_iff (w : Word) : fpIsDenorm w = true ↔ 0 < fpBits w ∧ fpBits w < 8388608 := by
  rw [fpIsDenorm, fpExp_eq, fpFrac_eq, Bool.and_eq_true, beq_iff_eq, bne_iff_ne]
  omega

theorem fpFinite_iff (w : Word) : fpFinite w = true ↔ fpBits w < 0x7F800000 := by
  have h := fpBits_lt w
  rw [fpFinite, fpExp_eq, bne_iff_ne]
  omega

theorem fpIsNaN_eq (w : Word) : fpIsNaN w = decide (0x7F800000 < fpBits w) := by
  rw [Bool.eq_iff_iff, fpIsNaN_iff, decide_eq_true_iff]

theorem fpIsInf_eq (w : Word) : fpIsInf w = decide (fpBits w = 0x7F800000) := by
  rw [Bool.eq_iff_iff, fpIsInf_iff, decide_eq_true_iff]

theorem fpIsZero_eq (w : Word) : fpIsZero w = decide (fpBits w = 0) := by
  rw [Bool.eq_iff_iff, fpIsZero_iff, decide_eq_true_iff]

theorem fpIsDenorm_eq (w : Word) : fpIsDenorm w = decide (0 < fpBits w ∧ fpBits w < 8388608) := by
  rw [Bool.eq_iff_iff, fpIsDenorm_iff, decide_eq_true_iff]

/-! ## The magnitude -/

/-- The magnitude of a number with the bits `m`. -/
def bitsMag (m : Nat) : Nat := if m < 8388608 then m else (8388608 + m % 8388608) * 2 ^ (m / 8388608 - 1)

theorem fpMag_eq (w : Word) : fpMag w = bitsMag (fpBits w) := by
  rw [fpMag, bitsMag, fpExp_eq, fpFrac_eq]
  split <;> split
  · omega
  · omega
  · omega
  · rfl

/-- A significand `q` at the exponent `e`: what a carry into 2^24 means, and what a denormalized number is, needs no case. -/
theorem bitsMag_add {e q : Nat} (hlo : e = 0 ∨ 8388608 ≤ q) (hhi : q ≤ 16777216) : bitsMag (e * 8388608 + q) = q * 2 ^ e := by
  unfold bitsMag
  split
  · have he : e = 0 := by omega
    simp [he]
  · rcases Nat.lt_or_eq_of_le hhi with h | rfl
    · have h1 : (e * 8388608 + q) % 8388608 = q - 8388608 := by omega
      have h2 : (e * 8388608 + q) / 8388608 - 1 = e := by omega
      rw [h1, h2, Nat.add_sub_cancel' (by omega)]
    · have h1 : (e * 8388608 + 16777216) % 8388608 = 0 := by omega
      have h2 : (e * 8388608 + 16777216) / 8388608 - 1 = e + 1 := by omega
      rw [h1, h2, pow_succ]
      omega

/-- Every string of bits is a significand at an exponent. -/
theorem exists_bits_eq (m : Nat) : ∃ e q, m = e * 8388608 + q ∧ (e = 0 ∨ 8388608 ≤ q) ∧ q < 16777216 := by
  rcases Nat.lt_or_ge m 8388608 with h | h
  · exact ⟨0, m, by omega, .inl rfl, by omega⟩
  · exact ⟨m / 8388608 - 1, 8388608 + m % 8388608, by omega, .inr (by omega), by omega⟩

/-- The magnitude rises with the bits. -/
theorem bitsMag_strictMono : StrictMono bitsMag := by
  refine strictMono_nat_of_lt_succ fun m => ?_
  obtain ⟨e, q, rfl, hlo, hhi⟩ := exists_bits_eq m
  rw [Nat.add_assoc, bitsMag_add hlo (by omega), bitsMag_add (by omega) hhi]
  exact Nat.mul_lt_mul_of_pos_right (Nat.lt_succ_self q) (by positivity)

/-- At the scale 2^e a magnitude is a multiple of the unit, or it is small. -/
theorem two_pow_dvd_bitsMag_or_lt (m e : Nat) : 2 ^ e ∣ bitsMag m ∨ e ≠ 0 ∧ bitsMag m < 8388608 * 2 ^ e := by
  obtain ⟨c, q, rfl, hlo, hhi⟩ := exists_bits_eq m
  rw [bitsMag_add hlo (by omega)]
  rcases Nat.lt_or_ge c e with h | h
  · refine .inr ⟨by omega, ?_⟩
    calc q * 2 ^ c < 16777216 * 2 ^ c := Nat.mul_lt_mul_of_pos_right hhi (by positivity)
      _ = 8388608 * 2 ^ (c + 1) := by rw [pow_succ]; omega
      _ ≤ 8388608 * 2 ^ e := Nat.mul_le_mul_left _ (Nat.pow_le_pow_right (by decide) h)
  · exact .inl ((Nat.pow_dvd_pow 2 h).mul_left q)

theorem fpMag_eq_iff (v w : Word) : fpMag v = fpMag w ↔ fpBits v = fpBits w := by
  rw [fpMag_eq, fpMag_eq, bitsMag_strictMono.injective.eq_iff]

/-- Words of the same sign and magnitude are equal. -/
theorem eq_of_sign_mag {v w : Word} (hs : fpSign v = fpSign w) (hm : fpMag v = fpMag w) : v = w :=
  eq_of_sign_bits hs ((fpMag_eq_iff v w).1 hm)

theorem fpMag_eq_zero_iff (w : Word) : fpMag w = 0 ↔ fpIsZero w = true := by
  rw [fpIsZero_iff, fpMag_eq]
  exact bitsMag_strictMono.injective.eq_iff' rfl

/-- The magnitudes below 2^-126 are those of denormalized numbers and zeros. -/
theorem fpMag_lt_normal_iff (w : Word) : fpMag w < 8388608 ↔ fpBits w < 8388608 := by
  rw [fpMag_eq]
  exact bitsMag_strictMono.lt_iff_lt (b := 8388608)

/-- A finite number is at most (2^24 - 1) * 2^253 units. -/
theorem fpMag_le_of_finite {w : Word} (h : fpFinite w = true) : fpMag w ≤ 16777215 * 2 ^ 253 := by
  have hmax : bitsMag (253 * 8388608 + 16777215) = 16777215 * 2 ^ 253 := bitsMag_add (by decide) (by decide)
  rw [fpFinite_iff] at h
  rw [fpMag_eq, ← hmax]
  exact bitsMag_strictMono.monotone (by omega)

/-- An infinity counts as 2^277 units. -/
theorem fpMag_of_inf {w : Word} (h : fpIsInf w = true) : fpMag w = 16777216 * 2 ^ 253 := by
  rw [fpIsInf_iff] at h
  rw [fpMag_eq, h]
  exact bitsMag_add (e := 253) (q := 16777216) (by decide) (by decide)

/-! ## The value -/

@[simp] theorem fpMag_fpNeg (w : Word) : fpMag (fpNeg w) = fpMag w := by rw [fpMag_eq_iff, fpBits_fpNeg]

@[simp] theorem fpVal_fpNeg (w : Word) : fpVal (fpNeg w) = -fpVal w := by
  rw [fpVal, fpVal, fpSign_fpNeg, fpMag_fpNeg]
  cases fpSign w <;> simp

@[simp] theorem natAbs_fpVal (w : Word) : (fpVal w).natAbs = fpMag w := by
  rw [fpVal]
  split <;> omega

theorem fpVal_eq_zero_iff (w : Word) : fpVal w = 0 ↔ fpIsZero w = true := by
  rw [← fpMag_eq_zero_iff, ← natAbs_fpVal, Int.natAbs_eq_zero]

theorem decide_fpVal_neg {w : Word} (h : fpIsZero w = false) : decide (fpVal w < 0) = fpSign w := by
  have hm : fpMag w ≠ 0 := by rw [Ne, fpMag_eq_zero_iff, h]; decide
  rw [fpVal]
  cases fpSign w
  · simp
  · simpa using Nat.pos_of_ne_zero hm

end Sys2Proof.Machine
end

/-! # Rounding to single precision (43_float.md R366, R394, R395)

`roundNear` rounds num / den to a significand of at most 24 bits at an exponent that depends on num / den alone. Significand and
exponent, added up as `bitsMag_add` allows, are the bits of the result, cut off at those of infinity. -/
section
namespace Sys2Proof.Machine

/-! ## Rounding to an integer -/

/-- The rounded quotient is at most one half off, and where it is one half off it is even. -/
theorem roundHalfEven_spec (num : Nat) {den : Nat} (hd : 0 < den) :
    2 * num ≤ 2 * (roundHalfEven num den * den) + den ∧ 2 * (roundHalfEven num den * den) ≤ 2 * num + den ∧
      (2 * num = 2 * (roundHalfEven num den * den) + den ∨ 2 * (roundHalfEven num den * den) = 2 * num + den →
        roundHalfEven num den % 2 = 0) := by
  have hdiv : num / den * den + num % den = num := Nat.div_add_mod' num den
  have hmod := Nat.mod_lt num hd
  have hsucc : (num / den + 1) * den = num / den * den + den := Nat.succ_mul _ _
  simp only [roundHalfEven]
  split
  · omega
  · split
    · rw [hsucc]; omega
    · split
      · omega
      · rw [hsucc]; omega

/-- A quotient below `k + 1/2` is rounded to at most `k`. -/
theorem roundHalfEven_le {num den k : Nat} (hd : 0 < den) (h : 2 * num < 2 * (k * den) + den) : roundHalfEven num den ≤ k := by
  obtain ⟨-, hq, -⟩ := roundHalfEven_spec num hd
  by_contra hk
  have := Nat.mul_le_mul_right den (show k + 1 ≤ roundHalfEven num den by omega)
  rw [Nat.add_one_mul] at this
  omega

/-- A quotient from `k - 1/2` on is rounded to at least `k`, if `k` is even. -/
theorem le_roundHalfEven {num den k : Nat} (hd : 0 < den) (h : 2 * (k * den) < 2 * num + den ∨ k % 2 = 0 ∧ 2 * (k * den) ≤ 2 * num + den) :
    k ≤ roundHalfEven num den := by
  obtain ⟨hq, -, htie⟩ := roundHalfEven_spec num hd
  by_contra hk
  rcases Nat.lt_or_eq_of_le (show roundHalfEven num den + 1 ≤ k by omega) with hlt | rfl
  · have := Nat.mul_le_mul_right den (show roundHalfEven num den + 2 ≤ k by omega)
    rw [Nat.add_mul] at this
    omega
  · have := Nat.add_one_mul (roundHalfEven num den) den
    omega

/-- A multiple of the divisor is divided exactly. -/
theorem roundHalfEven_mul (k : Nat) {den : Nat} (hd : 0 < den) : roundHalfEven (k * den) den = k :=
  Nat.le_antisymm (roundHalfEven_le hd (by omega)) (le_roundHalfEven hd (by omega))

/-- No multiple of the divisor is nearer than the rounded one, and another is as near only if the rounded one is even. -/
theorem roundHalfEven_nearest (num k : Nat) {den : Nat} (hd : 0 < den) :
    ((num : Int) - (roundHalfEven num den * den : Nat)).natAbs ≤ ((num : Int) - (k * den : Nat)).natAbs ∧
      (((num : Int) - (roundHalfEven num den * den : Nat)).natAbs = ((num : Int) - (k * den : Nat)).natAbs →
        k ≠ roundHalfEven num den → roundHalfEven num den % 2 = 0) := by
  obtain ⟨hlo, hhi, htie⟩ := roundHalfEven_spec num hd
  rcases Nat.lt_trichotomy k (roundHalfEven num den) with h | rfl | h
  · have := Nat.mul_le_mul_right den h
    rw [Nat.add_one_mul] at this
    omega
  · exact ⟨le_rfl, fun _ h => absurd rfl h⟩
  · have := Nat.mul_le_mul_right den h
    rw [Nat.add_one_mul] at this
    omega

/-! ## Significand and exponent of the result -/

/-- The exponent of the unit in the last place, 0 for a denormalized result. -/
def roundExp (num den : Nat) : Nat := Nat.log2 (num / den) - 23

/-- num / den in units of the last place, rounded. -/
def roundSig (num den : Nat) : Nat := roundHalfEven num (den * 2 ^ roundExp num den)

/-- The bits of the result, if it is no infinity. -/
def roundBits (num den : Nat) : Nat := roundExp num den * 8388608 + roundSig num den

section
variable (num : Nat) {den : Nat} (hd : 0 < den)
include hd

theorem unit_pos (e : Nat) : 0 < den * 2 ^ e := by positivity

/-- The exponent scales num / den to 24 bits, or is 0. -/
theorem roundExp_spec : (roundExp num den = 0 ∨ 8388608 * (den * 2 ^ roundExp num den) ≤ num) ∧
    num < 16777216 * (den * 2 ^ roundExp num den) := by
  have hlt : num / den < 2 ^ (roundExp num den + 24) :=
    Nat.lt_log2_self.trans_le (Nat.pow_le_pow_right (by decide) (by unfold roundExp; omega))
  refine ⟨?_, ?_⟩
  · rcases Nat.eq_zero_or_pos (roundExp num den) with h | h
    · exact .inl h
    · have hlog : 23 + roundExp num den = Nat.log2 (num / den) := by unfold roundExp at h ⊢; omega
      have hne : num / den ≠ 0 := fun h0 => by rw [h0] at hlog; simp at hlog
      have hle := Nat.log2_self_le hne
      rw [← hlog, pow_add, Nat.le_div_iff_mul_le hd] at hle
      exact .inr (by linarith)
  · rw [Nat.div_lt_iff_lt_mul hd, pow_add] at hlt
    linarith

/-- From 2^-126 on the significand has 24 bits. -/
theorem le_roundSig {num : Nat} (h : 8388608 * den ≤ num) : 8388608 ≤ roundSig num den := by
  have hD := unit_pos hd (roundExp num den)
  obtain ⟨hlo, -⟩ := roundExp_spec num hd
  have : 8388608 * (den * 2 ^ roundExp num den) ≤ num := hlo.elim (fun he => by rwa [he, pow_zero, Nat.mul_one]) id
  exact le_roundHalfEven hD (by omega)

/-- Below 2^-126 the unit is 2^-149. -/
theorem roundExp_of_lt {num : Nat} (h : num < 8388608 * den) : roundExp num den = 0 := by
  obtain ⟨hlo, -⟩ := roundExp_spec num hd
  rcases hlo with hlo | hlo
  · exact hlo
  · have := Nat.le_mul_of_pos_right den (Nat.two_pow_pos (roundExp num den))
    omega

theorem roundSig_spec : (roundExp num den = 0 ∨ 8388608 ≤ roundSig num den) ∧ roundSig num den ≤ 16777216 := by
  have hD := unit_pos hd (roundExp num den)
  obtain ⟨-, hhi⟩ := roundExp_spec num hd
  refine ⟨?_, roundHalfEven_le hD (by omega)⟩
  rcases Nat.lt_or_ge num (8388608 * den) with h | h
  · exact .inl (roundExp_of_lt hd h)
  · exact .inr (le_roundSig hd h)

theorem bitsMag_roundBits : bitsMag (roundBits num den) = roundSig num den * 2 ^ roundExp num den :=
  bitsMag_add (roundSig_spec num hd).1 (roundSig_spec num hd).2

/-- The result overflows from (2^24 - 1/2) * 2^104 on (R394): 2^24 units at the greatest exponent, or any greater one. -/
theorem le_roundBits_iff : 0x7F800000 ≤ roundBits num den ↔ (2 ^ 25 - 1) * 2 ^ 252 * den ≤ num := by
  have hD := unit_pos hd (roundExp num den)
  obtain ⟨hlo, hhi⟩ := roundExp_spec num hd
  obtain ⟨hslo, hshi⟩ := roundSig_spec num hd
  have hpow : 2 ^ 253 * den = den * 2 ^ 253 := Nat.mul_comm _ _
  have hmono {a b : Nat} (h : a ≤ b) : den * 2 ^ a ≤ den * 2 ^ b := Nat.mul_le_mul_left den (Nat.pow_le_pow_right (by decide) h)
  rcases Nat.lt_trichotomy (roundExp num den) 253 with h | h | h
  · have := hmono (show roundExp num den ≤ 252 by omega)
    exact iff_of_false (by unfold roundBits; omega) (by omega)
  · have hsig : roundSig num den = roundHalfEven num (den * 2 ^ 253) := by rw [roundSig, h]
    rw [roundBits, h]
    constructor
    · intro hb
      by_contra hnum
      have : roundSig num den ≤ 16777215 := by
        rw [hsig]
        exact roundHalfEven_le (unit_pos hd _) (by omega)
      omega
    · intro hnum
      have : 16777216 ≤ roundSig num den := by
        rw [hsig]
        exact le_roundHalfEven (unit_pos hd _) (by omega)
      omega
  · have := hmono (show 254 ≤ roundExp num den by omega)
    exact iff_of_true (by unfold roundBits; omega) (by omega)

end

/-! ## The result -/

/-- Without the flush, a value that is not zero has these bits, cut off at those of infinity. -/
theorem roundNear_false {num : Nat} (hn : num ≠ 0) {den : Nat} (hd : 0 < den) (z s : Bool) :
    roundNear false z s num den = fpPack s (min 0x7F800000 (roundBits num den)) := by
  have hshi := (roundSig_spec num hd).2
  rw [roundNear, if_neg hn]
  split
  · next h =>
    have he := roundExp_of_lt hd h
    have hsig : roundSig num den = roundHalfEven num den := by rw [roundSig, he, pow_zero, Nat.mul_one]
    rw [if_neg (by decide), roundBits, he, hsig, Nat.min_eq_right (by omega), Nat.zero_mul, Nat.zero_add]
  · next h =>
    have hle : 2 ^ 23 ≤ num / den := (Nat.le_div_iff_mul_le hd).2 (by omega)
    have hl : Nat.log2 (num / den) = roundExp num den + 23 := by
      have := (Nat.le_log2 (by omega)).2 hle
      unfold roundExp
      omega
    have hslo : 8388608 ≤ roundSig num den := le_roundSig hd (by omega)
    have hsig : roundHalfEven num (den * 2 ^ (roundExp num den + 23 - 23)) = roundSig num den := rfl
    simp only [hl, hsig, fpInf, roundBits]
    split <;> split <;> exact congrArg (fpPack s) (by omega)

/-- The flush of non-Java mode makes a zero of what is below 2^-126 (R395). -/
theorem roundNear_true_of_lt (z s : Bool) {num den : Nat} (hn : num ≠ 0) (h : num < 8388608 * den) :
    roundNear true z s num den = fpZero s := by
  rw [roundNear, if_neg hn, if_pos h, if_pos rfl]

/-- From 2^-126 on the mode makes no difference. -/
theorem roundNear_eq_false_of_le (nj z s : Bool) {num den : Nat} (h : 8388608 * den ≤ num) :
    roundNear nj z s num den = roundNear false z s num den := by
  have hlt := Nat.not_lt.2 h
  simp only [roundNear, hlt, if_false]

/-! ## What is known of every rounded value -/

/-- A rounded value is the sign and bits that depend on the magnitude alone and are no NaN's. -/
theorem exists_roundNear_eq (nj : Bool) {num den : Nat} (hn : num ≠ 0) (hd : 0 < den) :
    ∃ m, m ≤ 0x7F800000 ∧ ∀ z s, roundNear nj z s num den = fpPack s m := by
  rcases Nat.lt_or_ge num (8388608 * den) with h | h
  · cases nj
    · exact ⟨_, Nat.min_le_left _ _, roundNear_false hn hd⟩
    · exact ⟨0, by decide, fun z s => roundNear_true_of_lt z s hn h⟩
  · exact ⟨_, Nat.min_le_left _ _, fun z s => (roundNear_eq_false_of_le nj z s h).trans (roundNear_false hn hd z s)⟩

theorem roundNear_zero (nj z s : Bool) (den : Nat) : roundNear nj z s 0 den = fpZero z := if_pos rfl

theorem fpSign_roundNear (nj z s : Bool) {num den : Nat} (hn : num ≠ 0) (hd : 0 < den) : fpSign (roundNear nj z s num den) = s := by
  obtain ⟨m, hm, he⟩ := exists_roundNear_eq nj hn hd
  rw [he, fpSign_fpPack s (by omega)]

theorem fpBits_roundNear_le (nj z s : Bool) (num : Nat) {den : Nat} (hd : 0 < den) :
    fpBits (roundNear nj z s num den) ≤ 0x7F800000 := by
  rcases Nat.eq_zero_or_pos num with rfl | hn
  · simp [roundNear_zero]
  · obtain ⟨m, hm, he⟩ := exists_roundNear_eq nj hn.ne' hd
    rwa [he, fpBits_fpPack s (by omega)]

section
variable {num den : Nat} (hn : num ≠ 0) (hd : 0 < den) (z s : Bool)
include hn hd

theorem fpBits_roundNear_false : fpBits (roundNear false z s num den) = min 0x7F800000 (roundBits num den) := by
  rw [roundNear_false hn hd, fpBits_fpPack s (by omega)]

/-- Overflow gives an infinity. -/
theorem roundNear_false_of_overflow (h : (2 ^ 25 - 1) * 2 ^ 252 * den ≤ num) : roundNear false z s num den = fpInf s := by
  rw [roundNear_false hn hd, Nat.min_eq_left ((le_roundBits_iff num hd).2 h), fpInf]

/-- Short of overflow the result is finite. -/
theorem fpFinite_roundNear_false (h : num < (2 ^ 25 - 1) * 2 ^ 252 * den) : fpFinite (roundNear false z s num den) = true := by
  have := mt (le_roundBits_iff num hd).1 (Nat.not_le.2 h)
  rw [fpFinite_iff, fpBits_roundNear_false hn hd]
  omega

/-- A finite result is the significand in units of the last place. -/
theorem fpMag_roundNear_false (h : num < (2 ^ 25 - 1) * 2 ^ 252 * den) :
    fpMag (roundNear false z s num den) * den = roundSig num den * (den * 2 ^ roundExp num den) := by
  have := mt (le_roundBits_iff num hd).1 (Nat.not_le.2 h)
  rw [fpMag_eq, fpBits_roundNear_false hn hd, Nat.min_eq_right (by omega), bitsMag_roundBits num hd, Nat.mul_assoc,
    Nat.mul_comm (2 ^ _)]

/-- The fraction is even where the significand is. -/
theorem fpFrac_roundNear_false_mod (h : num < (2 ^ 25 - 1) * 2 ^ 252 * den) :
    fpFrac (roundNear false z s num den) % 2 = roundSig num den % 2 := by
  have := mt (le_roundBits_iff num hd).1 (Nat.not_le.2 h)
  rw [fpFrac_eq, fpBits_roundNear_false hn hd, Nat.min_eq_right (by omega), roundBits]
  omega

/-- No finite number is nearer than the result, and one of another magnitude is as near only if the result's fraction is even: the
numbers that are no multiple of the unit in the last place lie below 2^23 of it, and the value above. -/
theorem roundNear_false_nearest (h : num < (2 ^ 25 - 1) * 2 ^ 252 * den) (w : Word) :
    ((num : Int) - fpMag (roundNear false z s num den) * den).natAbs ≤ ((num : Int) - fpMag w * den).natAbs ∧
      (((num : Int) - fpMag (roundNear false z s num den) * den).natAbs = ((num : Int) - fpMag w * den).natAbs →
        fpMag w ≠ fpMag (roundNear false z s num den) → fpFrac (roundNear false z s num den) % 2 = 0) := by
  have hD := unit_pos hd (roundExp num den)
  have hy := fpMag_roundNear_false hn hd z s h
  have hnear (k : Nat) := roundHalfEven_nearest num k hD
  rw [fpFrac_roundNear_false_mod hn hd z s h]
  rw [show roundHalfEven num (den * 2 ^ roundExp num den) = roundSig num den from rfl, ← hy] at hnear
  push_cast at hnear
  rcases two_pow_dvd_bitsMag_or_lt (fpBits w) (roundExp num den) with ⟨k, hk⟩ | ⟨he, hlt⟩
  · have hw : fpMag w * den = k * (den * 2 ^ roundExp num den) := by rw [fpMag_eq, hk]; ring
    have hw' : (fpMag w : Int) * den = k * (den * 2 ^ roundExp num den) := by exact_mod_cast hw
    rw [hw']
    refine ⟨(hnear k).1, fun he hne => (hnear k).2 he ?_⟩
    rintro rfl
    exact hne (Nat.eq_of_mul_eq_mul_right hd (hw.trans hy.symm))
  · have hlo := (roundExp_spec num hd).1.resolve_left he
    have hw : fpMag w * den < 8388608 * (den * 2 ^ roundExp num den) := by
      rw [fpMag_eq]
      linarith [Nat.mul_lt_mul_of_pos_right hlt hd]
    have h23 := (hnear 8388608).1
    zify at hlo hw
    push_cast at h23
    omega

/-- What a value exceeds, its rounding does not fall below. -/
theorem le_fpMag_roundNear_false {w : Word} (hw : fpFinite w = true) (h : fpMag w * den ≤ num) :
    fpMag w ≤ fpMag (roundNear false z s num den) := by
  rcases Nat.lt_or_ge num ((2 ^ 25 - 1) * 2 ^ 252 * den) with hlt | hge
  · have hnear := (roundNear_false_nearest hn hd z s hlt w).1
    by_contra hy
    have := Nat.mul_lt_mul_of_pos_right (Nat.lt_of_not_le hy) hd
    zify at this h
    omega
  · have := fpMag_le_of_finite hw
    rw [roundNear_false_of_overflow hn hd z s hge, fpMag_of_inf ((fpIsInf_iff _).2 (fpBits_fpInf s))]
    omega

/-- What a value does not exceed, its rounding does not exceed. -/
theorem fpMag_roundNear_false_le {w : Word} (hw : fpFinite w = true) (h : num ≤ fpMag w * den) :
    fpMag (roundNear false z s num den) ≤ fpMag w := by
  have hmax := Nat.mul_le_mul_right den (fpMag_le_of_finite hw)
  have hnear := (roundNear_false_nearest hn hd z s (by omega) w).1
  by_contra hy
  have := Nat.mul_lt_mul_of_pos_right (Nat.lt_of_not_le hy) hd
  zify at this h
  omega

/-- A value that is a single-precision number is kept. -/
theorem roundNear_false_eq_self {w : Word} (hw : fpFinite w = true) (h : num = fpMag w * den) :
    roundNear false z (fpSign w) num den = w :=
  eq_of_sign_mag (fpSign_roundNear _ _ _ hn hd)
    (Nat.le_antisymm (fpMag_roundNear_false_le hn hd z _ hw h.le) (le_fpMag_roundNear_false hn hd z _ hw h.ge))

/-- A multiple of the unit in the last place is kept, whether or not a word for it is at hand. -/
theorem fpMag_roundNear_false_of_dvd (h : num < (2 ^ 25 - 1) * 2 ^ 252 * den) (hdvd : den * 2 ^ roundExp num den ∣ num) :
    fpMag (roundNear false z s num den) * den = num := by
  obtain ⟨k, hk⟩ := hdvd
  have hsig : roundSig num den = k := by
    have := roundHalfEven_mul k (unit_pos hd (roundExp num den))
    rwa [Nat.mul_comm k, ← hk] at this
  rw [fpMag_roundNear_false hn hd z s h, hsig, Nat.mul_comm, ← hk]

/-- The error is at most one half of a unit in the last place: 2^-24 of the value, or of 2^-126 below that. -/
theorem roundNear_false_error (h : num < (2 ^ 25 - 1) * 2 ^ 252 * den) :
    16777216 * ((num : Int) - fpMag (roundNear false z s num den) * den).natAbs ≤ max num (8388608 * den) := by
  have hD := unit_pos hd (roundExp num den)
  have hy : (fpMag (roundNear false z s num den) : Int) * den = roundSig num den * (den * 2 ^ roundExp num den) := by
    exact_mod_cast fpMag_roundNear_false hn hd z s h
  obtain ⟨hlo, hhi, -⟩ := roundHalfEven_spec num hD
  rw [show roundHalfEven num (den * 2 ^ roundExp num den) = roundSig num den from rfl] at hlo hhi
  zify at hlo hhi
  rw [hy]
  rcases (roundExp_spec num hd).1 with he | hle
  · simp only [he, pow_zero, mul_one] at hlo hhi ⊢
    omega
  · zify at hle
    omega

end

/-! ## Rounding a signed value -/

@[simp] theorem roundVal_zero (nj z : Bool) (den : Nat) : roundVal nj z 0 den = fpZero z := roundNear_zero nj z _ den

/-- Rounding to nearest is the same for both signs. -/
theorem fpNeg_roundVal (nj z z' : Bool) {num : Int} (hn : num ≠ 0) {den : Nat} (hd : 0 < den) :
    fpNeg (roundVal nj z num den) = roundVal nj z' (-num) den := by
  obtain ⟨m, hm, he⟩ := exists_roundNear_eq nj (Int.natAbs_ne_zero.2 hn) hd
  have hs : (!decide (num < 0)) = decide (-num < 0) := by
    rw [← decide_not]
    exact decide_eq_decide.2 (by omega)
  rw [roundVal, roundVal, Int.natAbs_neg, he, he, fpNeg_fpPack (by omega), hs]

/-! ## The statements -/

/-- Settles O41: the overflow is `le_roundBits_iff`, the rest `roundNear_false_nearest`. -/
theorem roundingIsToNearestEven : Obligations.RoundingIsToNearestEven := by
  unfold Obligations.RoundingIsToNearestEven
  intro z s num den hd
  refine ⟨?zero, fun hn => fpSign_roundNear _ _ _ hn hd, fun h => ?overflow, fun h => ?finite⟩
  case zero =>
    rintro rfl
    exact roundNear_zero _ _ _ _
  case overflow =>
    have hpos : 0 < (2 ^ 25 - 1) * 2 ^ 252 * den := by omega
    exact roundNear_false_of_overflow (by omega) hd z s h
  case finite =>
    rcases Nat.eq_zero_or_pos num with rfl | hn
    · have hy : fpMag (roundNear false z s 0 den) = 0 := by rw [roundNear_zero, fpMag_eq, fpBits_fpZero]; rfl
      have hfin : fpFinite (roundNear false z s 0 den) = true := by rw [roundNear_zero, fpFinite_iff, fpBits_fpZero]; decide
      refine ⟨hfin, fun w _ => ⟨by simp [hy], fun he hne => absurd ?_ hne⟩⟩
      rw [hy] at he ⊢
      simpa [hd.ne'] using he.symm
    · exact ⟨fpFinite_roundNear_false hn.ne' hd z s h, fun w _ => roundNear_false_nearest hn.ne' hd z s h w⟩

/-- Settles O42: a single-precision number is kept by `roundNear_false_eq_self`; the mode matters below 2^-126 only. -/
theorem roundingKeepsWhatFits : Obligations.RoundingKeepsWhatFits := by
  unfold Obligations.RoundingKeepsWhatFits
  refine ⟨fun nj z w hw hz => ?fits, fun z s num den hn h => roundNear_true_of_lt z s hn.ne' h,
    fun z s num den h => roundNear_eq_false_of_le true z s h⟩
  case fits =>
    have hn : fpMag w ≠ 0 := by rw [Ne, fpMag_eq_zero_iff, hz]; decide
    have hself : roundNear false z (fpSign w) (fpMag w) 1 = w := roundNear_false_eq_self hn Nat.one_pos z hw (by omega)
    rw [roundVal, decide_fpVal_neg hz, natAbs_fpVal]
    rcases Nat.lt_or_ge (fpMag w) 8388608 with hlt | hge
    · have hpos : fpBits w ≠ 0 := by rw [Ne, ← fpIsZero_iff, hz]; decide
      have hdenorm : fpIsDenorm w = true := (fpIsDenorm_iff w).2 ⟨by omega, (fpMag_lt_normal_iff w).1 hlt⟩
      cases nj
      · simpa using hself
      · simpa [hdenorm] using roundNear_true_of_lt z (fpSign w) hn (den := 1) hlt
    · have hdenorm : fpIsDenorm w = false := by
        rw [fpIsDenorm_eq, decide_eq_false_iff_not, ← fpMag_lt_normal_iff]
        omega
      rw [roundNear_eq_false_of_le nj z _ (den := 1) hge, hself, hdenorm]
      simp

end Sys2Proof.Machine
end

/-! # Floating-point arithmetic on one element (43_float.md R363 to R375)

The functions of the model treat NaNs first, then infinities, and then round an exact value. The lemmas of this part say what each
of these treatments gives; inverting signs commutes with all of them but the choice of the sign of an exact zero. -/
section
namespace Sys2Proof.Machine

/-! ## The classes exclude each other, and do not depend on the sign -/

@[simp] theorem fpIsNaN_fpNeg (w : Word) : fpIsNaN (fpNeg w) = fpIsNaN w := by rw [fpIsNaN_eq, fpIsNaN_eq, fpBits_fpNeg]
@[simp] theorem fpIsInf_fpNeg (w : Word) : fpIsInf (fpNeg w) = fpIsInf w := by rw [fpIsInf_eq, fpIsInf_eq, fpBits_fpNeg]
@[simp] theorem fpIsZero_fpNeg (w : Word) : fpIsZero (fpNeg w) = fpIsZero w := by rw [fpIsZero_eq, fpIsZero_eq, fpBits_fpNeg]
@[simp] theorem fpIsDenorm_fpNeg (w : Word) : fpIsDenorm (fpNeg w) = fpIsDenorm w := by
  rw [fpIsDenorm_eq, fpIsDenorm_eq, fpBits_fpNeg]

@[simp] theorem fpNeg_fpNeg (w : Word) : fpNeg (fpNeg w) = w := eq_of_sign_bits (by simp) (by simp)

@[simp] theorem fpIsZero_fpZero (s : Bool) : fpIsZero (fpZero s) = true := by rw [fpIsZero_iff, fpBits_fpZero]

theorem fpIsInf_of_finite {w : Word} (h : fpFinite w = true) : fpIsInf w = false := by
  rw [fpFinite_iff] at h
  rw [fpIsInf_eq, decide_eq_false_iff_not]
  omega

theorem fpIsNaN_of_finite {w : Word} (h : fpFinite w = true) : fpIsNaN w = false := by
  rw [fpFinite_iff] at h
  rw [fpIsNaN_eq, decide_eq_false_iff_not]
  omega

theorem fpIsNaN_of_inf {w : Word} (h : fpIsInf w = true) : fpIsNaN w = false := by
  rw [fpIsInf_iff] at h
  rw [fpIsNaN_eq, decide_eq_false_iff_not]
  omega

theorem fpIsNaN_of_zero {w : Word} (h : fpIsZero w = true) : fpIsNaN w = false := by
  rw [fpIsZero_iff] at h
  rw [fpIsNaN_eq, decide_eq_false_iff_not]
  omega

theorem fpIsInf_of_zero {w : Word} (h : fpIsZero w = true) : fpIsInf w = false := by
  rw [fpIsZero_iff] at h
  rw [fpIsInf_eq, decide_eq_false_iff_not]
  omega

/-- A zero is the zero of its sign. -/
theorem eq_fpZero_of_zero {w : Word} (h : fpIsZero w = true) : w = fpZero (fpSign w) :=
  eq_of_sign_bits (by simp) (by rw [fpBits_fpZero, (fpIsZero_iff w).1 h])

/-! ## The flush (R363) -/

/-- A flushed operand is the operand, or the zero for a denormalized one. -/
theorem flushIn_cases (nj : Bool) (w : Word) :
    flushIn nj w = w ∨ nj = true ∧ fpIsDenorm w = true ∧ flushIn nj w = fpZero (fpSign w) := by
  rw [flushIn]
  split
  · next h => exact .inr (by simpa using h)
  · exact .inl rfl

@[simp] theorem fpIsNaN_flushIn (nj : Bool) (w : Word) : fpIsNaN (flushIn nj w) = fpIsNaN w := by
  rcases flushIn_cases nj w with h | ⟨-, hd, h⟩
  · rw [h]
  · rw [fpIsDenorm_iff] at hd
    rw [h, fpIsNaN_of_zero (fpIsZero_fpZero _), fpIsNaN_eq, eq_comm, decide_eq_false_iff_not]
    omega

theorem flushIn_of_NaN (nj : Bool) {w : Word} (h : fpIsNaN w = true) : flushIn nj w = w := by
  rcases flushIn_cases nj w with hw | ⟨-, hd, -⟩
  · exact hw
  · rw [fpIsNaN_iff] at h
    rw [fpIsDenorm_iff] at hd
    omega

theorem flushIn_fpNeg (nj : Bool) (w : Word) : flushIn nj (fpNeg w) = fpNeg (flushIn nj w) := by
  rw [flushIn, flushIn, fpIsDenorm_fpNeg, fpSign_fpNeg]
  split
  · rw [fpNeg_fpZero]
  · rfl

/-! ## NaN operands (R368) -/

section
variable {a b c : Word} (r : Word)

theorem fpNaN2_left (ha : fpIsNaN a = true) : fpNaN2 a b r = a ||| 0x00400000 := if_pos ha

theorem fpNaN2_right (ha : fpIsNaN a = false) (hb : fpIsNaN b = true) : fpNaN2 a b r = b ||| 0x00400000 := by
  simp [fpNaN2, ha, hb, fpQuiet]

theorem fpNaN2_none (ha : fpIsNaN a = false) (hb : fpIsNaN b = false) : fpNaN2 a b r = r := by simp [fpNaN2, ha, hb]

theorem fpNaN2_first (h : fpIsNaN a = true ∨ fpIsNaN b = true) :
    fpNaN2 a b r = (if fpIsNaN a then a else b) ||| 0x00400000 := by
  cases ha : fpIsNaN a
  · simp_all [fpNaN2_right]
  · simp [fpNaN2_left r ha]

theorem fpNaN3_none (ha : fpIsNaN a = false) (hb : fpIsNaN b = false) (hc : fpIsNaN c = false) : fpNaN3 a b c r = r := by
  rw [fpNaN3, fpNaN2_none _ ha hb, hc]
  rfl

theorem fpNaN3_first (h : fpIsNaN a = true ∨ fpIsNaN b = true ∨ fpIsNaN c = true) :
    fpNaN3 a b c r = (if fpIsNaN a then a else if fpIsNaN b then b else c) ||| 0x00400000 := by
  rw [fpNaN3]
  cases ha : fpIsNaN a
  · cases hb : fpIsNaN b
    · simp_all [fpNaN2_none, fpQuiet]
    · simp [fpNaN2_right _ ha hb]
  · simp [fpNaN2_left _ ha]

end

/-! ## Sums and differences (R370, R371) -/

theorem fpAddCore_comm (nj : Bool) (a b : Word) : fpAddCore nj a b = fpAddCore nj b a := by
  unfold fpAddCore
  cases ha : fpIsInf a <;> cases hb : fpIsInf b
  · simp [Bool.and_comm, Int.add_comm]
  · simp
  · simp
  · by_cases hs : fpSign a = fpSign b
    · have hab : a = b := eq_of_sign_bits hs (((fpIsInf_iff a).1 ha).trans ((fpIsInf_iff b).1 hb).symm)
      rw [hab]
    · simp [hs, Ne.symm hs]

/-- An infinity and a finite number add up to the infinity. -/
theorem fpAddCore_inf_finite (nj : Bool) {a b : Word} (ha : fpIsInf a = true) (hb : fpFinite b = true) : fpAddCore nj a b = a := by
  simp [fpAddCore, ha, fpIsInf_of_finite hb]

/-- Finite numbers are added exactly and rounded once. -/
theorem fpAddCore_finite (nj : Bool) {a b : Word} (ha : fpFinite a = true) (hb : fpFinite b = true) :
    fpAddCore nj a b = roundVal nj (a == fpZero true && b == fpZero true) (fpVal a + fpVal b) 1 := by
  simp [fpAddCore, fpIsInf_of_finite ha, fpIsInf_of_finite hb]

/-- A difference is the sum with the sign of the subtrahend inverted. -/
theorem fpSubCore_eq_fpAddCore (nj : Bool) (a b : Word) : fpSubCore nj a b = fpAddCore nj a (fpNeg b) := by
  have hz : (b == fpZero false) = (fpNeg b == fpZero true) := by
    rw [Bool.eq_iff_iff, beq_iff_eq, beq_iff_eq]
    exact ⟨fun h => by rw [h, fpNeg_fpZero]; rfl, fun h => by rw [← fpNeg_fpNeg b, h, fpNeg_fpZero]; rfl⟩
  have hs : (fpSign a == fpSign b) = (fpSign a != fpSign (fpNeg b)) := by
    rw [fpSign_fpNeg]
    cases fpSign a <;> cases fpSign b <;> rfl
  simp only [fpSubCore, fpAddCore, fpIsInf_fpNeg, fpVal_fpNeg, hz, hs, Int.sub_eq_add_neg]

/-- Settles O43: each clause is one treatment of `fpNaN2` or of `fpAddCore`, and the difference is a sum. -/
theorem floatSumsAndDifferences : Obligations.FloatSumsAndDifferences := by
  unfold Obligations.FloatSumsAndDifferences
  intro nj x y a b
  have hadd (ha : fpIsNaN a = false) (hb : fpIsNaN b = false) : fpAdd nj x y = fpAddCore nj a b := fpNaN2_none _ ha hb
  refine ⟨fun ha => fpNaN2_left _ ha, fun ha hb => fpNaN2_right _ ha hb, fun ha hb => ?comm, fun ha hb hs => ?invalid,
    fun ha hb => ?infinite, fun ha hb => ?twice, fun ha hb => ?finite, fun hy => ?difference, fun hx => ?leftNaN, fun hx hy => ?rightNaN⟩
  case comm => rw [hadd ha hb, fpAddCore_comm, fpAdd, fpNaN2_none _ hb ha]
  case invalid =>
    rw [hadd (fpIsNaN_of_inf ha) (fpIsNaN_of_inf hb)]
    simp [fpAddCore, ha, hb, hs, fpQNaN]
  case infinite => rw [hadd (fpIsNaN_of_inf ha) (fpIsNaN_of_finite hb), fpAddCore_inf_finite nj ha hb]
  case twice =>
    rw [hadd (fpIsNaN_of_inf ha) (hb ▸ fpIsNaN_of_inf ha), hb]
    simp [fpAddCore, ha]
  case finite =>
    rw [hadd (fpIsNaN_of_finite ha) (fpIsNaN_of_finite hb), fpAddCore_finite nj ha hb]
    rfl
  case difference =>
    have hb : fpIsNaN b = false := by rwa [fpIsNaN_flushIn]
    change fpSub nj x y = fpAdd nj x (fpNeg y)
    rw [fpSub, fpAdd, fpSubCore_eq_fpAddCore, flushIn_fpNeg]
    simp only [fpNaN2, fpIsNaN_fpNeg, hb, b, Bool.false_eq_true, if_false]
  case leftNaN =>
    rw [fpSub, flushIn_of_NaN nj hx]
    exact fpNaN2_left _ hx
  case rightNaN =>
    rw [fpSub, flushIn_of_NaN nj hy]
    exact fpNaN2_right _ (by rwa [fpIsNaN_flushIn]) hy

/-! ## Products with an addend (R372, R373) -/

/-- A product of finite factors is not invalid. -/
theorem fpProdInvalid_of_finite {a c : Word} (ha : fpFinite a = true) (hc : fpFinite c = true) : fpProdInvalid a c = false := by
  simp [fpProdInvalid, fpIsInf_of_finite ha, fpIsInf_of_finite hc]

/-- A product of factors that are no zeros is not invalid. -/
theorem fpProdInvalid_of_nonzero {a c : Word} (ha : fpIsZero a = false) (hc : fpIsZero c = false) : fpProdInvalid a c = false := by
  simp [fpProdInvalid, ha, hc]

theorem fpProdInvalid_iff (a c : Word) :
    fpProdInvalid a c = true ↔ fpIsInf a = true ∧ fpIsZero c = true ∨ fpIsZero a = true ∧ fpIsInf c = true := by
  simp [fpProdInvalid]

/-- Settles O45: each clause is one branch of the two functions, which treat NaNs and infinities alike. -/
theorem fusedMultiplyAdd : Obligations.FusedMultiplyAdd := by
  unfold Obligations.FusedMultiplyAdd
  intro nj x y w a b c negZero
  have hadd (ha : fpIsNaN a = false) (hb : fpIsNaN b = false) (hc : fpIsNaN c = false) :
      fpMulAdd nj x y w = fpMulAddCore nj a b c := fpNaN3_none _ ha hb hc
  have hsub (ha : fpIsNaN a = false) (hb : fpIsNaN b = false) (hc : fpIsNaN c = false) :
      fpNegMulSub nj x y w = fpNegMulSubCore nj a b c := fpNaN3_none _ ha hb hc
  refine ⟨fun ha hb hc => ?finite, fun hb h => ?invalid, fun ha hb hc hinf hza hzc => ?infiniteProduct,
    fun ha hc hb => ?infiniteAddend, fun h => ⟨fpNaN3_first _ h, fpNaN3_first _ h⟩⟩
  case finite =>
    have hna := fpIsNaN_of_finite ha
    have hnb := fpIsNaN_of_finite hb
    have hnc := fpIsNaN_of_finite hc
    rw [hadd hna hnb hnc, hsub hna hnb hnc]
    simp only [fpMulAddCore, fpNegMulSubCore, fpProdInvalid_of_finite ha hc, fpIsInf_of_finite ha, fpIsInf_of_finite hb,
      fpIsInf_of_finite hc, Bool.or_false, Bool.false_eq_true, if_false]
    exact ⟨rfl, rfl⟩
  case invalid =>
    have hna : fpIsNaN a = false := h.elim (fun h => fpIsNaN_of_inf h.1) fun h => fpIsNaN_of_zero h.1
    have hnc : fpIsNaN c = false := h.elim (fun h => fpIsNaN_of_zero h.2) fun h => fpIsNaN_of_inf h.2
    have hinv := (fpProdInvalid_iff a c).2 h
    rw [hadd hna hb hnc, hsub hna hb hnc]
    exact ⟨if_pos hinv, if_pos hinv⟩
  case infiniteProduct =>
    have hinf' : (fpIsInf a || fpIsInf c) = true := by simpa using hinf
    rw [hadd ha hb hc, hsub ha hb hc]
    simp only [fpMulAddCore, fpNegMulSubCore, fpProdInvalid_of_nonzero hza hzc, hinf', fpProdSign, Bool.false_eq_true, if_false,
      if_true, Bool.and_eq_true, bne_iff_ne, beq_iff_eq]
    exact ⟨rfl, rfl⟩
  case infiniteAddend =>
    have hna := fpIsNaN_of_finite ha
    have hnb := fpIsNaN_of_inf hb
    have hnc := fpIsNaN_of_finite hc
    rw [hadd hna hnb hnc, hsub hna hnb hnc]
    simp [fpMulAddCore, fpNegMulSubCore, fpProdInvalid_of_finite ha hc, fpIsInf_of_finite ha, fpIsInf_of_finite hc, hb]

/-- Rounding to nearest gives opposite numbers for opposite values, and zeros for zero. -/
theorem fpNeg_roundVal_cases (nj z z' : Bool) (num : Int) {den : Nat} (hd : 0 < den) :
    fpNeg (roundVal nj z num den) = roundVal nj z' (-num) den ∨
      fpIsZero (fpNeg (roundVal nj z num den)) = true ∧ fpIsZero (roundVal nj z' (-num) den) = true := by
  rcases eq_or_ne num 0 with rfl | hn
  · right
    simp
  · exact .inl (fpNeg_roundVal nj z z' hn hd)

/-- Before the NaNs are looked for, the two functions agree on opposite first factors, but for the sign of a zero. -/
theorem fpNegMulSubCore_cases (nj : Bool) (a b c : Word) :
    fpNegMulSubCore nj a b c = fpMulAddCore nj (fpNeg a) b c ∨
      fpIsZero (fpNegMulSubCore nj a b c) = true ∧ fpIsZero (fpMulAddCore nj (fpNeg a) b c) = true := by
  have hinv : fpProdInvalid (fpNeg a) c = fpProdInvalid a c := by simp [fpProdInvalid]
  have hsign : fpProdSign (fpNeg a) c = !fpProdSign a c := by simp [fpProdSign]
  have hcancel : (fpSign b != !fpProdSign a c) = (fpSign b == fpProdSign a c) := by
    cases fpSign b <;> cases fpProdSign a c <;> rfl
  have hval : fpVal (fpNeg a) * fpVal c + fpVal b * 2 ^ 149 = -(fpVal a * fpVal c - fpVal b * 2 ^ 149) := by
    rw [fpVal_fpNeg]
    ring
  simp only [fpNegMulSubCore, fpMulAddCore, hinv, hsign, hcancel, fpIsInf_fpNeg, hval]
  split
  · exact .inl rfl
  · split
    · exact .inl rfl
    · split
      · exact .inl rfl
      · exact fpNeg_roundVal_cases _ _ _ _ (by decide)

/-- Settles O46: `fpNegMulSubCore_cases`, since the operands are no NaNs. -/
theorem negativeMultiplySubtract : Obligations.NegativeMultiplySubtract := by
  unfold Obligations.NegativeMultiplySubtract
  intro nj a b c ha hb hc
  change (fpIsZero (fpNegMulSub nj a b c) = false → fpNegMulSub nj a b c = fpMulAdd nj (fpNeg a) b c) ∧
    (fpIsZero (fpNegMulSub nj a b c) = true ↔ fpIsZero (fpMulAdd nj (fpNeg a) b c) = true)
  rw [fpNegMulSub, fpMulAdd, flushIn_fpNeg, fpNaN3_none _ (by simpa) (by simpa) (by simpa),
    fpNaN3_none _ (by simpa) (by simpa) (by simpa)]
  rcases fpNegMulSubCore_cases nj (flushIn nj a) (flushIn nj b) (flushIn nj c) with h | ⟨h, h'⟩
  · rw [h]
    exact ⟨fun _ => rfl, Iff.rfl⟩
  · simp [h, h']

/-! ## Maximum and minimum (R374, R375) -/

theorem fpVal_fpZero (s : Bool) : fpVal (fpZero s) = 0 := (fpVal_eq_zero_iff _).2 (fpIsZero_fpZero s)

/-- Settles O47: two zeros are told apart by their signs, and any other two operands by their values. -/
theorem floatMaximumMinimum : Obligations.FloatMaximumMinimum := by
  unfold Obligations.FloatMaximumMinimum
  intro nj x y a b
  have hmax (ha : fpIsNaN a = false) (hb : fpIsNaN b = false) : fpMax nj x y =
      if fpIsZero a && fpIsZero b then fpZero (fpSign a && fpSign b) else if fpVal b ≤ fpVal a then a else b := fpNaN2_none _ ha hb
  have hmin (ha : fpIsNaN a = false) (hb : fpIsNaN b = false) : fpMin nj x y =
      if fpIsZero a && fpIsZero b then fpZero (fpSign a || fpSign b) else if fpVal a < fpVal b then a else b := fpNaN2_none _ ha hb
  refine ⟨fun ha hb => ?numbers, fun ha hb => ?zeros, fun h => ⟨fpNaN2_first _ h, fpNaN2_first _ h⟩⟩
  case numbers =>
    rw [hmax ha hb, hmin ha hb]
    cases hz : fpIsZero a && fpIsZero b
    · simp only [Bool.false_eq_true, if_false]
      refine ⟨?_, ?_, ite_eq_or_eq _ _ _, ite_eq_or_eq _ _ _⟩ <;> split <;> omega
    · obtain ⟨hza, hzb⟩ := Bool.and_eq_true_iff.1 hz
      rw [if_pos rfl, if_pos rfl, eq_fpZero_of_zero hza, eq_fpZero_of_zero hzb]
      cases fpSign a <;> cases fpSign b <;> simp [fpVal_fpZero]
  case zeros =>
    rw [hmax (fpIsNaN_of_zero ha) (fpIsNaN_of_zero hb), hmin (fpIsNaN_of_zero ha) (fpIsNaN_of_zero hb), ha, hb]
    simp

end Sys2Proof.Machine
end

/-! # Floating-point instructions that are no estimates (43_float.md R360, R370 to R379, R385 to R392)

Most of these write a vector element by element. What is added here is what a compare decides, and how rounding to an integer and
truncation to a word relate to the value of the operand. -/
section
namespace Sys2Proof.Machine

/-! ## Arithmetic (R370 to R375) -/

/-- Settles O40: each instruction applies its function to the elements. -/
theorem floatArithmetic : Obligations.FloatArithmetic := by
  unfold Obligations.FloatArithmetic
  intro s vD vA vB vC hv A B C
  refine ⟨?vaddfp, ?vsubfp, ?vmaddfp, ?vnmsubfp, ?vmaxfp, ?vminfp⟩
  case vaddfp | vsubfp | vmaddfp | vnmsubfp | vmaxfp | vminfp => exact .of_elements hv rfl fun _ => rfl

/-! ## Compares (R365, R376 to R379) -/

/-- A compare holds where neither flushed operand is a NaN and the values are related. -/
theorem fpCompare_iff (r : Int → Int → Prop) [∀ p q, Decidable (r p q)] (nj : Bool) (x y : Word) :
    fpCompare (fun p q => decide (r p q)) nj x y = true ↔
      (fpIsNaN (flushIn nj x) = false ∧ fpIsNaN (flushIn nj y) = false) ∧ r (fpVal (flushIn nj x)) (fpVal (flushIn nj y)) := by
  simp [fpCompare]

/-- An element of the bounds compare holds two bits, each clear where its bound is met. -/
theorem fpBounds_bits (nj : Bool) (x y : Word) :
    (wordBit (fpBounds nj x y) 0 = true ↔ ¬ fpCompare (fun p q => decide (p ≤ q)) nj x y = true) ∧
    (wordBit (fpBounds nj x y) 1 = true ↔ ¬ fpCompare (fun p q => decide (-q ≤ p)) nj x y = true) ∧
    fpBounds nj x y &&& 0x3FFFFFFF = 0 := by
  unfold fpBounds
  cases fpCompare (fun p q => decide (p ≤ q)) nj x y <;> cases fpCompare (fun p q => decide (-q ≤ p)) nj x y <;> decide

/-- It is 0 where both are met. -/
theorem fpBounds_eq_zero_iff (nj : Bool) (x y : Word) : fpBounds nj x y = 0 ↔
    fpCompare (fun p q => decide (p ≤ q)) nj x y = true ∧ fpCompare (fun p q => decide (-q ≤ p)) nj x y = true := by
  unfold fpBounds
  cases fpCompare (fun p q => decide (p ≤ q)) nj x y <;> cases fpCompare (fun p q => decide (-q ≤ p)) nj x y <;> decide

/-- The bits of CR field 6 after the bounds compare (10_state.md R56). -/
theorem boundsCR6_bits (d : Quad) : (boundsCR6 d).getLsbD 3 = false ∧ (boundsCR6 d).getLsbD 2 = false ∧
    ((boundsCR6 d).getLsbD 1 = true ↔ d = 0) ∧ (boundsCR6 d).getLsbD 0 = false := by
  unfold boundsCR6
  split
  · next h => exact ⟨by decide, by decide, iff_of_true (by decide) h, by decide⟩
  · next h => exact ⟨by decide, by decide, iff_of_false (by decide) h, by decide⟩

/-- Settles O48: the tests decide the statement's relations; the bounds compare adds two bits an element, all clear where vD is 0. -/
theorem floatCompares : Obligations.FloatCompares := by
  unfold Obligations.FloatCompares
  intro s vD vA vB rc hv A B a b noNaN le ge
  refine ⟨?vcmpeqfp, ?vcmpgefp, ?vcmpgtfp, ?vcmpbfp⟩
  case vcmpeqfp => exact .of_elements hv rfl fun _ => fpCompare_iff (fun p q => p = q) _ _ _
  case vcmpgefp => exact .of_elements hv rfl fun _ => fpCompare_iff (fun p q => q ≤ p) _ _ _
  case vcmpgtfp => exact .of_elements hv rfl fun _ => fpCompare_iff (fun p q => q < p) _ _ _
  case vcmpbfp =>
    have hle (k : Nat) := fpCompare_iff (fun p q => p ≤ q) s.nj (elem 32 k A) (elem 32 k B)
    have hge (k : Nat) := fpCompare_iff (fun p q => -q ≤ p) s.nj (elem 32 k A) (elem 32 k B)
    have hbits (k : Nat) := fpBounds_bits s.nj (elem 32 k A) (elem 32 k B)
    have hmet (k : Nat) := fpBounds_eq_zero_iff s.nj (elem 32 k A) (elem 32 k B)
    simp only [hle, hge] at hbits hmet
    have hel (k : Nat) (hk : k < 4) : elem 32 k (map2 32 (fpBounds s.nj) A B) = fpBounds s.nj (elem 32 k A) (elem 32 k B) :=
      elem_build32 _ hk
    have hread (k : Nat) (hk : k < 4) : elem 32 k ((s.writeBounds vD rc (map2 32 (fpBounds s.nj) A B)).advance.readV vD) =
        fpBounds s.nj (elem 32 k A) (elem 32 k B) := by
      rw [State.readV_advance, State.readV_of_vr_set (State.writeBounds_vr s vD rc _), hel k hk]
    have hzero : map2 32 (fpBounds s.nj) A B = 0 ↔ ∀ k, k < 4 → le k ∧ ge k := by
      constructor
      · intro h k hk
        rw [← hmet k, ← hel k hk, h, elem_zero]
      · intro h
        refine eq_of_elem_eq 32 (by decide) (by decide) _ _ fun k hk => ?_
        rw [hel k hk, elem_zero]
        exact (hmet k).2 (h k hk)
    refine ⟨_, vectorStep_vec hv _, fun k hk => ?_, fun h => by simp [h], fun h => ?_,
      State.writeBounds_advance_wroteVector s vD rc _, by simp⟩
    · rw [hread k hk]
      exact hbits k
    · obtain ⟨h3, h2, h1, h0⟩ := boundsCR6_bits (map2 32 (fpBounds s.nj) A B)
      rw [State.advance_cr, State.writeBounds_cr, h, if_pos rfl, ← hzero]
      refine ⟨fun c hc hout => ?_, ?_, ?_, ?_, ?_⟩
      · rw [wordBit_writeCR6 _ _ _ hc, if_neg (by omega)]
      all_goals rw [wordBit_writeCR6 _ _ _ (by decide), if_pos (by decide)]
      · exact h3
      · exact h2
      · exact h1
      · exact h0

/-! ## Truncation to a word (R391, R392) -/

/-- Truncation of the magnitude is truncation of the value toward zero. -/
theorem tdiv_fpVal (w : Word) (u : Nat) :
    (if fpSign w then -((fpMag w * 2 ^ u / 2 ^ 149 : Nat) : Int) else (fpMag w * 2 ^ u / 2 ^ 149 : Nat)) =
      Int.tdiv (fpVal w * 2 ^ u) (2 ^ 149) := by
  have hmag : ((fpMag w * 2 ^ u / 2 ^ 149 : Nat) : Int) = Int.tdiv (fpMag w * 2 ^ u) (2 ^ 149) := by
    rw [Int.tdiv_eq_ediv_of_nonneg (by positivity)]
    push_cast
    rfl
  rw [fpVal, hmag]
  cases fpSign w
  · rfl
  · simp [Int.neg_tdiv]

/-- The flush does not matter: what it replaces is truncated to zero. -/
theorem tdiv_fpVal_flushIn (nj : Bool) (w : Word) {u : Nat} (hu : u < 32) :
    Int.tdiv (fpVal (flushIn nj w) * 2 ^ u) (2 ^ 149) = Int.tdiv (fpVal w * 2 ^ u) (2 ^ 149) := by
  rcases flushIn_cases nj w with h | ⟨-, hd, h⟩
  · rw [h]
  · have hlt : fpMag w * 2 ^ u < 2 ^ 149 := by
      have hm : fpMag w < 8388608 := (fpMag_lt_normal_iff w).2 ((fpIsDenorm_iff w).1 hd).2
      calc fpMag w * 2 ^ u ≤ 8388608 * 2 ^ 32 := Nat.mul_le_mul hm.le (Nat.pow_le_pow_right (by decide) hu.le)
        _ < 2 ^ 149 := by decide
    rw [h, fpVal_fpZero, ← tdiv_fpVal w, Nat.div_eq_of_lt hlt]
    simp

/-- A conversion saturates the truncated value, and 0 for a NaN. -/
theorem fpToInt_eq (kind : IntKind) (nj : Bool) (w : Word) {u : Nat} (hu : u < 32) :
    fpToInt kind nj w u = satWord kind (if fpIsNaN w then 0 else Int.tdiv (fpVal w * 2 ^ u) (2 ^ 149)) := by
  simp only [fpToInt, fpIsNaN_flushIn]
  split
  · cases kind <;> decide
  · rw [tdiv_fpVal, tdiv_fpVal_flushIn nj w hu]

/-- Settles O50: the four roundings and the two conversions apply their functions to the elements. -/
theorem roundingsAndConversionsToFloat : Obligations.RoundingsAndConversionsToFloat := by
  unfold Obligations.RoundingsAndConversionsToFloat
  intro s vD vB uimm hv B
  refine ⟨?vrfin, ?vrfiz, ?vrfip, ?vrfim, ?vcfux, ?vcfsx⟩
  case vrfin | vrfiz | vrfip | vrfim => exact .of_elements hv rfl fun _ => rfl
  case vcfux | vcfsx => exact .of_elements hv rfl fun _ => rfl

/-- Settles O51: `fpToInt_eq`. -/
theorem conversionsToInteger : Obligations.ConversionsToInteger := by
  unfold Obligations.ConversionsToInteger
  intro s vD vB uimm hv B x
  refine ⟨?vctuxs, ?vctsxs⟩
  case vctuxs => exact .of_elements hv rfl fun k _ => fpToInt_eq .unsigned s.nj (elem 32 k B) uimm.isLt
  case vctsxs => exact .of_elements hv rfl fun k _ => fpToInt_eq .signed s.nj (elem 32 k B) uimm.isLt

/-! ## Rounding to an integer (R385 to R388) -/

section
variable (m : RoundMode) (s : Bool)

theorem roundMag_nearest (num : Nat) : roundMag .nearest s num = roundHalfEven num (2 ^ 149) := rfl
theorem roundMag_zero (num : Nat) : roundMag .zero s num = num / 2 ^ 149 := rfl
theorem roundMag_up (num : Nat) :
    roundMag .up s num = if s then num / 2 ^ 149 else (num + (2 ^ 149 - 1)) / 2 ^ 149 := rfl
theorem roundMag_down (num : Nat) :
    roundMag .down s num = if s then (num + (2 ^ 149 - 1)) / 2 ^ 149 else num / 2 ^ 149 := rfl

/-- An integral magnitude is kept in every mode. -/
theorem roundMag_mul (k : Nat) : roundMag m s (k * 2 ^ 149) = k := by
  have hup : (k * 2 ^ 149 + (2 ^ 149 - 1)) / 2 ^ 149 = k := by omega
  have hdown : k * 2 ^ 149 / 2 ^ 149 = k := Nat.mul_div_cancel k (Nat.two_pow_pos 149)
  cases m with
  | nearest => exact roundHalfEven_mul k (Nat.two_pow_pos 149)
  | zero => exact hdown
  | up => rw [roundMag_up]; split; exacts [hdown, hup]
  | down => rw [roundMag_down]; split; exacts [hup, hdown]

/-- A magnitude of at most `k` is rounded to at most `k` in every mode. -/
theorem roundMag_le {num k : Nat} (h : num ≤ k * 2 ^ 149) : roundMag m s num ≤ k := by
  have hdown : num / 2 ^ 149 ≤ k := by omega
  have hup : (num + (2 ^ 149 - 1)) / 2 ^ 149 ≤ k := by omega
  cases m with
  | nearest => exact roundHalfEven_le (Nat.two_pow_pos 149) (by omega)
  | zero => exact hdown
  | up => rw [roundMag_up]; split; exacts [hdown, hup]
  | down => rw [roundMag_down]; split; exacts [hup, hdown]

end

/-- An integer of at most 24 bits is a single-precision number. -/
theorem fpMag_roundNear_integer (z s : Bool) {k : Nat} (h0 : k ≠ 0) (hk : k ≤ 8388608) :
    fpFinite (roundNear false z s (k * 2 ^ 149) 1) = true ∧ fpMag (roundNear false z s (k * 2 ^ 149) 1) = k * 2 ^ 149 := by
  have hn : k * 2 ^ 149 ≠ 0 := by omega
  have hlt : k * 2 ^ 149 < (2 ^ 25 - 1) * 2 ^ 252 * 1 := by omega
  have he : roundExp (k * 2 ^ 149) 1 ≤ 149 := by
    rcases (roundExp_spec (k * 2 ^ 149) Nat.one_pos).1 with he | hle
    · omega
    · by_contra hgt
      have := Nat.pow_le_pow_right (n := 2) (by decide) (show 150 ≤ roundExp (k * 2 ^ 149) 1 by omega)
      omega
  refine ⟨fpFinite_roundNear_false hn Nat.one_pos z s hlt, ?_⟩
  have hdvd : 1 * 2 ^ roundExp (k * 2 ^ 149) 1 ∣ k * 2 ^ 149 := by
    rw [Nat.one_mul]
    exact (Nat.pow_dvd_pow 2 he).mul_left k
  simpa using fpMag_roundNear_false_of_dvd hn Nat.one_pos z s hlt hdvd

/-- The magnitude that a mode rounds a finite number to is that of a single-precision number. -/
theorem roundNear_roundMag (m : RoundMode) (z : Bool) {x : Word} (hx : fpFinite x = true)
    (hn : roundMag m (fpSign x) (fpMag x) ≠ 0) :
    fpFinite (roundNear false z (fpSign x) (roundMag m (fpSign x) (fpMag x) * 2 ^ 149) 1) = true ∧
      fpMag (roundNear false z (fpSign x) (roundMag m (fpSign x) (fpMag x) * 2 ^ 149) 1) =
        roundMag m (fpSign x) (fpMag x) * 2 ^ 149 := by
  rcases two_pow_dvd_bitsMag_or_lt (fpBits x) 149 with ⟨k, hk⟩ | ⟨-, hlt⟩
  · rw [← fpMag_eq, Nat.mul_comm] at hk
    rw [hk, roundMag_mul] at hn ⊢
    rw [roundNear_false_eq_self (by omega) Nat.one_pos z hx (by omega)]
    exact ⟨hx, hk⟩
  · rw [← fpMag_eq] at hlt
    exact fpMag_roundNear_integer z _ hn (roundMag_le m _ hlt.le)

/-- What a finite operand is rounded to: its sign, and the magnitude the mode gives. -/
theorem fpRoundInt_finite (m : RoundMode) (nj : Bool) (w : Word) (hx : fpFinite (flushIn nj w) = true) :
    fpFinite (fpRoundInt m nj w) = true ∧ fpSign (fpRoundInt m nj w) = fpSign (flushIn nj w) ∧
      fpMag (fpRoundInt m nj w) = roundMag m (fpSign (flushIn nj w)) (fpMag (flushIn nj w)) * 2 ^ 149 := by
  simp only [fpRoundInt, fpIsNaN_of_finite hx, fpIsInf_of_finite hx, Bool.false_or, Bool.false_eq_true, if_false]
  generalize flushIn nj w = x at hx
  have hzero : roundMag m (fpSign x) 0 = 0 := by simpa using roundMag_mul m (fpSign x) 0
  split
  · next hz =>
    rw [(fpMag_eq_zero_iff x).2 hz, hzero]
    exact ⟨hx, rfl, rfl⟩
  · by_cases hn : roundMag m (fpSign x) (fpMag x) = 0
    · rw [hn, Nat.zero_mul, roundNear_zero, fpSign_fpZero, fpFinite_iff, fpBits_fpZero, fpMag_eq_zero_iff]
      exact ⟨by decide, rfl, fpIsZero_fpZero _⟩
    · obtain ⟨hfin, hmag⟩ := roundNear_roundMag m (fpSign x) hx hn
      exact ⟨hfin, fpSign_roundNear _ _ _ (by omega) Nat.one_pos, hmag⟩

/-- The value of the rounded operand. -/
theorem fpVal_fpRoundInt (m : RoundMode) (nj : Bool) (w : Word) (hx : fpFinite (flushIn nj w) = true) :
    fpVal (fpRoundInt m nj w) = (if fpSign (flushIn nj w) then -(roundMag m (fpSign (flushIn nj w)) (fpMag (flushIn nj w)) : Int)
      else roundMag m (fpSign (flushIn nj w)) (fpMag (flushIn nj w))) * 2 ^ 149 := by
  obtain ⟨-, hs, hm⟩ := fpRoundInt_finite m nj w hx
  rw [fpVal, hs, hm]
  split <;> push_cast <;> ring

/-- Settles O49: the values are those of `fpVal_fpRoundInt`, and each mode's bound is one on the magnitude, on either side of zero. -/
theorem roundedIntegers : Obligations.RoundedIntegers := by
  unfold Obligations.RoundedIntegers
  intro nj w x one
  refine ⟨fun hx m => ?integral, fun hx => ?modes, fun m => ⟨fun h => ?quiet, fun h => ?infinite⟩⟩
  case integral =>
    obtain ⟨hfin, hs, -⟩ := fpRoundInt_finite m nj w hx
    refine ⟨hfin, hs, ?_⟩
    rw [fpVal_fpRoundInt m nj w hx]
    exact Int.mul_emod_left _ _
  case modes =>
    obtain ⟨hlo, hhi, htie⟩ := roundHalfEven_spec (fpMag x) (Nat.two_pow_pos 149)
    have htdiv := tdiv_fpVal x 0
    simp only [pow_zero, mul_one] at htdiv
    have hval (m : RoundMode) : fpVal (fpRoundInt m nj w) = _ := fpVal_fpRoundInt m nj w hx
    rw [hval, hval, hval, hval, roundMag_nearest, roundMag_zero, roundMag_up, roundMag_down]
    rw [← htdiv, show flushIn nj w = x from rfl, fpVal]
    generalize roundHalfEven (fpMag x) (2 ^ 149) = near at hlo hhi htie ⊢
    cases fpSign x
    · simp only [Bool.false_eq_true, if_false, one]
      refine ⟨by omega, by omega, trivial, by omega, by omega, by omega, by omega⟩
    · simp only [if_true, one]
      refine ⟨by omega, by omega, trivial, by omega, by omega, by omega, by omega⟩
  case quiet =>
    simp only [fpRoundInt]
    exact if_pos h
  case infinite =>
    simp only [fpRoundInt]
    change (if fpIsNaN x then _ else if fpIsInf x || fpIsZero x then x else _) = x
    rw [fpIsNaN_of_inf h, h]
    rfl

end Sys2Proof.Machine
end

/-! # Reciprocal and reciprocal square root estimates (43_float.md R380 to R382, R393 to R395)

An estimate is a permitted value, or the default. That a permitted value meets the statement's bound is read off the predicate; that
the default does follows from the error of its rounding. -/
section
namespace Sys2Proof.Machine

/-! ## Estimates in general (R380) -/

/-- What holds of every permitted value and of the default holds of an estimate, whatever the free value is. -/
theorem estimate_elim {P : Word → Prop} {permitted : Word → Bool} {candidate default : Word}
    (hp : ∀ y, permitted y = true → P y) (hd : P default) : P (estimate permitted candidate default) := by
  unfold estimate
  split
  · exact hp _ ‹_›
  · exact hd

/-- A meaning that writes four words and takes a draw completes, gives the words, and changes nothing but vD. -/
theorem exists_next_of_drawn {i : Instr} {s : State} {vD : VReg} {f : Nat → Word} (hv : s.vec = true)
    (he : exec i s = vectorStep s (s.writeV vD (build 32 f)).drawn) :
    ∃ t, exec i s = .next t ∧ WroteOnly vD s t ∧ ∀ k, k < 4 → elem 32 k (t.readV vD) = f k :=
  ⟨_, he.trans (vectorStep_vec hv _),
    ⟨⟨⟨rfl, rfl, rfl, rfl⟩, ⟨rfl, rfl, rfl, rfl, rfl⟩, fun _ h => State.readV_writeV_ne s _ h, fun _ => rfl, rfl⟩, rfl, rfl⟩,
    fun k hk => by rw [State.readV_advance, State.readV_drawn, State.readV_writeV_self, elem_build32 f hk]⟩

/-! ## Classes of results -/

theorem fpFinite_of_class {y : Word} (hn : fpIsNaN y = false) (hi : fpIsInf y = false) : fpFinite y = true := by
  rw [fpIsNaN_eq, decide_eq_false_iff_not] at hn
  rw [fpIsInf_eq, decide_eq_false_iff_not] at hi
  rw [fpFinite_iff]
  omega

theorem fpIsDenorm_of_zero {y : Word} (h : fpIsZero y = true) : fpIsDenorm y = false := by
  rw [fpIsZero_iff] at h
  rw [fpIsDenorm_eq, decide_eq_false_iff_not]
  omega

theorem fpIsDenorm_of_inf {y : Word} (h : fpIsInf y = true) : fpIsDenorm y = false := by
  rw [fpIsInf_iff] at h
  rw [fpIsDenorm_eq, decide_eq_false_iff_not]
  omega

theorem fpIsZero_of_inf {y : Word} (h : fpIsInf y = true) : fpIsZero y = false := by
  rw [fpIsInf_iff] at h
  rw [fpIsZero_eq, decide_eq_false_iff_not]
  omega

theorem fpIsDenorm_of_le_mag {y : Word} (h : 8388608 ≤ fpMag y) : fpIsDenorm y = false := by
  rw [fpIsDenorm_eq, decide_eq_false_iff_not, ← fpMag_lt_normal_iff]
  omega

theorem fpIsNaN_roundNear (nj z s : Bool) (num : Nat) {den : Nat} (hd : 0 < den) : fpIsNaN (roundNear nj z s num den) = false := by
  have := fpBits_roundNear_le nj z s num hd
  rw [fpIsNaN_eq, decide_eq_false_iff_not]
  omega

/-- 2^-126 is 2^23 units. -/
theorem fpMag_minNormal : fpMag 0x00800000 = 8388608 := by decide

/-- From 2^-126 on a result is no denormalized number. -/
theorem le_fpMag_roundNear (nj z s : Bool) {num den : Nat} (hd : 0 < den) (h : 8388608 * den ≤ num) :
    8388608 ≤ fpMag (roundNear nj z s num den) := by
  rw [roundNear_eq_false_of_le nj z s h, ← fpMag_minNormal]
  exact le_fpMag_roundNear_false (by omega) hd z s (by decide) (by rwa [fpMag_minNormal])

/-- Non-Java mode gives no denormalized number. -/
theorem fpIsDenorm_roundNear_true (z s : Bool) (num : Nat) {den : Nat} (hd : 0 < den) :
    fpIsDenorm (roundNear true z s num den) = false := by
  rcases Nat.eq_zero_or_pos num with rfl | hn
  · exact fpIsDenorm_of_zero (by simp [roundNear_zero])
  · rcases Nat.lt_or_ge num (8388608 * den) with h | h
    · exact fpIsDenorm_of_zero (by simp [roundNear_true_of_lt z s hn.ne' h])
    · exact fpIsDenorm_of_le_mag (le_fpMag_roundNear true z s hd h)

/-! ## The reciprocal (R381) -/

/-- The product of numbers of the same sign is that of their magnitudes. -/
theorem fpVal_mul_of_sign_eq {x y : Word} (h : fpSign y = fpSign x) : fpVal x * fpVal y = (fpMag x * fpMag y : Nat) := by
  rw [fpVal, fpVal, h]
  cases fpSign x <;> simp

/-- What the statement says of the estimate `y` of 1/x, for a finite `x` that is not zero. -/
def RecipBound (nj : Bool) (x y : Word) : Prop :=
  fpIsNaN y = false ∧ fpSign y = fpSign x ∧ (nj = true → fpIsDenorm y = false) ∧
    (fpFinite y = true → fpIsZero y = false → (fpVal x * fpVal y - 2 ^ 298).natAbs ≤ 2 ^ 286) ∧
    (fpIsInf y = true → (2 ^ 25 - 1) * 4096 * fpMag x ≤ 4097 * 2 ^ 46) ∧
    (fpIsZero y = true → nj = true ∧ 4095 * 2 ^ 275 < 4096 * fpMag x)

/-- A result that is finite and no zero needs the bound on the product only. -/
theorem RecipBound.of_finite {nj : Bool} {x y : Word} (hy : fpFinite y = true) (hz : fpIsZero y = false) (hs : fpSign y = fpSign x)
    (hden : nj = true → fpIsDenorm y = false) (h : ((fpMag y * fpMag x : Nat) - 2 ^ 298 : Int).natAbs ≤ 2 ^ 286) :
    RecipBound nj x y := by
  refine ⟨fpIsNaN_of_finite hy, hs, hden, fun _ _ => ?_, fun hi => ?_, fun hz' => ?_⟩
  · rwa [fpVal_mul_of_sign_eq hs, Nat.mul_comm]
  · rw [fpIsInf_of_finite hy] at hi
    cases hi
  · rw [hz] at hz'
    cases hz'

/-- An infinity needs to be the overflow of a permitted estimate. -/
theorem RecipBound.of_inf {nj : Bool} {x y : Word} (hy : fpIsInf y = true) (hs : fpSign y = fpSign x)
    (h : (2 ^ 25 - 1) * 4096 * fpMag x ≤ 4097 * 2 ^ 46) : RecipBound nj x y := by
  refine ⟨fpIsNaN_of_inf hy, hs, fun _ => fpIsDenorm_of_inf hy, fun hf => ?_, fun _ => h, fun hz => ?_⟩
  · rw [fpIsInf_of_finite hf] at hy
    cases hy
  · rw [fpIsZero_of_inf hy] at hz
    cases hz

/-- A zero needs to be the flush of a permitted estimate. -/
theorem RecipBound.of_zero {x y : Word} (hy : fpIsZero y = true) (hs : fpSign y = fpSign x)
    (h : 4095 * 2 ^ 275 < 4096 * fpMag x) : RecipBound true x y := by
  refine ⟨fpIsNaN_of_zero hy, hs, fun _ => fpIsDenorm_of_zero hy, fun _ hz => ?_, fun hi => ?_, fun _ => ⟨rfl, h⟩⟩
  · rw [hy] at hz
    cases hz
  · rw [fpIsInf_of_zero hy] at hi
    cases hi

/-- A permitted value is of one of these kinds. -/
theorem RecipBound.of_permitted {nj : Bool} {x y : Word} (h : recipPermitted nj x y = true) : RecipBound nj x y := by
  simp only [recipPermitted, Bool.and_eq_true, beq_iff_eq, Bool.not_eq_true'] at h
  obtain ⟨⟨hs, hnan⟩, h⟩ := h
  cases hi : fpIsInf y
  · cases hz : fpIsZero y
    · simp only [hi, hz, Bool.false_eq_true, if_false, Bool.and_eq_true, Bool.not_eq_true', Bool.and_eq_false_iff,
        decide_eq_true_eq] at h
      obtain ⟨⟨hden, hhi⟩, hlo⟩ := h
      exact .of_finite (fpFinite_of_class hnan hi) hz hs (fun hnj => hden.resolve_left (by simp [hnj])) (by omega)
    · simp only [hi, hz, Bool.false_eq_true, if_false, if_true, Bool.and_eq_true, decide_eq_true_eq] at h
      obtain ⟨rfl, hlt⟩ := h
      exact .of_zero hz hs (by rwa [Nat.mul_comm 4095, Nat.mul_comm 4096])
  · simp only [hi, if_true, decide_eq_true_eq] at h
    exact .of_inf hi hs (by omega)

/-- So is the rounded reciprocal, whose error is far below the bound. -/
theorem RecipBound.of_default (nj : Bool) {x : Word} (hx : fpFinite x = true) (hz : fpIsZero x = false) :
    RecipBound nj x (roundNear nj false (fpSign x) (2 ^ 298) (fpMag x)) := by
  have hpos : 0 < fpMag x := Nat.pos_of_ne_zero (by rw [Ne, fpMag_eq_zero_iff, hz]; decide)
  have hmax := fpMag_le_of_finite hx
  have hn : 2 ^ 298 ≠ 0 := by positivity
  by_cases hflush : nj = true ∧ 2 ^ 298 < 8388608 * fpMag x
  · obtain ⟨rfl, hlt⟩ := hflush
    rw [roundNear_true_of_lt _ _ hn hlt]
    exact .of_zero (fpIsZero_fpZero _) (fpSign_fpZero _) (by omega)
  have hfalse : roundNear nj false (fpSign x) (2 ^ 298) (fpMag x) = roundNear false false (fpSign x) (2 ^ 298) (fpMag x) := by
    cases nj
    · rfl
    · exact roundNear_eq_false_of_le _ _ _ (Nat.not_lt.1 fun h => hflush ⟨rfl, h⟩)
  rcases Nat.lt_or_ge (2 ^ 298) ((2 ^ 25 - 1) * 2 ^ 252 * fpMag x) with hlt | hge
  · have herr := roundNear_false_error hn hpos false (fpSign x) hlt
    have hfin := fpFinite_roundNear_false hn hpos false (fpSign x) hlt
    have hs := fpSign_roundNear false false (fpSign x) hn hpos
    have hden : nj = true → fpIsDenorm (roundNear nj false (fpSign x) (2 ^ 298) (fpMag x)) = false := by
      rintro rfl
      exact fpIsDenorm_roundNear_true _ _ _ hpos
    rw [hfalse] at hden ⊢
    generalize roundNear false false (fpSign x) (2 ^ 298) (fpMag x) = y at *
    have hprod : ((fpMag y * fpMag x : Nat) - 2 ^ 298 : Int).natAbs ≤ 2 ^ 286 := by
      rw [Int.natCast_mul]
      omega
    refine .of_finite hfin ?_ hs hden hprod
    rw [← Bool.not_eq_true, ← fpMag_eq_zero_iff]
    intro h0
    rw [h0] at hprod
    omega
  · rw [hfalse, roundNear_false_of_overflow hn hpos _ _ hge]
    exact .of_inf ((fpIsInf_iff _).2 (fpBits_fpInf _)) (fpSign_fpInf _) (by omega)

/-- Settles O52: the special results are the first branches, and an estimate meets `RecipBound` by `estimate_elim`. -/
theorem reciprocalEstimate : Obligations.ReciprocalEstimate := by
  unfold Obligations.ReciprocalEstimate
  intro s vD vB hv
  obtain ⟨t, he, hw, hel⟩ := exists_next_of_drawn (i := .vrefp vD vB) (vD := vD) hv rfl
  refine ⟨t, he, hw, fun k hk => ?_⟩
  rw [hel k hk]
  intro x y
  have hy : y = if fpIsNaN x then fpQuiet x else if fpIsInf x then fpZero (fpSign x) else if fpIsZero x then fpInf (fpSign x)
      else estimate (recipPermitted s.nj x) _ (roundNear s.nj false (fpSign x) (2 ^ 298) (fpMag x)) := rfl
  refine ⟨fun h => ?quiet, fun h => ?infinite, fun h => ?zero, fun hx hz => ?finite⟩
  case quiet => rw [hy, if_pos h, fpQuiet]
  case infinite => rw [hy, fpIsNaN_of_inf h, h, if_neg (by decide), if_pos rfl]
  case zero => rw [hy, fpIsNaN_of_zero h, fpIsInf_of_zero h, h, if_neg (by decide), if_neg (by decide), if_pos rfl]
  case finite =>
    rw [fpIsNaN_of_finite hx, fpIsInf_of_finite hx, hz, if_neg (by decide), if_neg (by decide), if_neg (by decide)] at hy
    change RecipBound s.nj x y
    rw [hy]
    exact estimate_elim (fun _ => RecipBound.of_permitted) (RecipBound.of_default s.nj hx hz)

/-! ## The reciprocal square root (R382) -/

/-- The search from the leading bit down keeps the root between `r` and `r + 2^k`. -/
theorem rootFrom_spec (n k r : Nat) (hlo : r * r ≤ n) (hhi : n < (r + 2 ^ k) * (r + 2 ^ k)) :
    rootFrom n k r * rootFrom n k r ≤ n ∧ n < (rootFrom n k r + 1) * (rootFrom n k r + 1) := by
  induction k generalizing r with
  | zero => exact ⟨hlo, hhi⟩
  | succ k ih =>
    rw [rootFrom]
    split
    · next h => exact ih _ h (by rwa [Nat.add_assoc, ← Nat.two_mul, ← Nat.pow_succ'])
    · next h => exact ih _ hlo (Nat.lt_of_not_le h)

/-- The model's root is the library's. -/
theorem root_eq_sqrt (n : Nat) : root n = Nat.sqrt n := by
  have hhi : n < 2 ^ (Nat.log2 n / 2 + 1) * 2 ^ (Nat.log2 n / 2 + 1) := by
    rw [← pow_add]
    exact Nat.lt_log2_self.trans_le (Nat.pow_le_pow_right (by decide) (by omega))
  exact Nat.eq_sqrt.2 (rootFrom_spec n _ 0 (Nat.zero_le _) (by simpa using hhi))

/-- What the statement says of the estimate `y` of 1/sqrt(x), for a finite positive `x`. -/
def RsqrtBound (x y : Word) : Prop :=
  fpFinite y = true ∧ fpSign y = false ∧ 4095 ^ 2 * 2 ^ 447 ≤ 4096 ^ 2 * (fpMag y ^ 2 * fpMag x) ∧
    4096 ^ 2 * (fpMag y ^ 2 * fpMag x) ≤ 4097 ^ 2 * 2 ^ 447

theorem RsqrtBound.of_permitted {x y : Word} (h : rsqrtPermitted x y = true) : RsqrtBound x y := by
  simp only [rsqrtPermitted, Bool.and_eq_true, Bool.not_eq_true', decide_eq_true_eq] at h
  obtain ⟨⟨⟨⟨hs, hnan⟩, hinf⟩, hlo⟩, hhi⟩ := h
  exact ⟨fpFinite_of_class hnan hinf, hs, hlo, hhi⟩

/-- The bounds on the squares follow from bounds on the roots: `r` is the root of 2^447 / M, rounded down. -/
theorem rsqrt_square_bounds {r y M T : Nat} (hr : r * r * M ≤ T) (hr' : T ≤ (r + 1) * (r + 1) * M)
    (hlo : 4095 * (r + 1) ≤ 4096 * y) (hhi : 4096 * y ≤ 4097 * r) :
    4095 ^ 2 * T ≤ 4096 ^ 2 * (y ^ 2 * M) ∧ 4096 ^ 2 * (y ^ 2 * M) ≤ 4097 ^ 2 * T := by
  constructor
  · calc 4095 ^ 2 * T ≤ 4095 ^ 2 * ((r + 1) * (r + 1) * M) := Nat.mul_le_mul_left _ hr'
      _ = 4095 * (r + 1) * (4095 * (r + 1)) * M := by ring
      _ ≤ 4096 * y * (4096 * y) * M := Nat.mul_le_mul_right _ (Nat.mul_le_mul hlo hlo)
      _ = 4096 ^ 2 * (y ^ 2 * M) := by ring
  · calc 4096 ^ 2 * (y ^ 2 * M) = 4096 * y * (4096 * y) * M := by ring
      _ ≤ 4097 * r * (4097 * r) * M := Nat.mul_le_mul_right _ (Nat.mul_le_mul hhi hhi)
      _ = 4097 ^ 2 * (r * r * M) := by ring
      _ ≤ 4097 ^ 2 * T := Nat.mul_le_mul_left _ hr

/-- The root, rounded down and then to nearest, stays far within the bound. -/
theorem RsqrtBound.of_default {x : Word} (hx : fpFinite x = true) (hz : fpIsZero x = false) (nj : Bool) :
    RsqrtBound x (roundNear nj false false (root (2 ^ 447 / fpMag x)) 1) := by
  have hpos : 0 < fpMag x := Nat.pos_of_ne_zero (by rw [Ne, fpMag_eq_zero_iff, hz]; decide)
  have hmax := fpMag_le_of_finite hx
  have hq := Nat.div_mul_le_self (2 ^ 447) (fpMag x)
  have hq' := (Nat.lt_mul_div_succ (2 ^ 447) hpos).le
  rw [root_eq_sqrt]
  have hlarge : 2 ^ 85 ≤ Nat.sqrt (2 ^ 447 / fpMag x) := by
    rw [Nat.le_sqrt, Nat.le_div_iff_mul_le hpos]
    omega
  have hsmall : Nat.sqrt (2 ^ 447 / fpMag x) < 2 ^ 224 := by
    rw [Nat.sqrt_lt]
    have := Nat.div_le_self (2 ^ 447) (fpMag x)
    omega
  have hr := Nat.mul_le_mul_right (fpMag x) (Nat.sqrt_le (2 ^ 447 / fpMag x))
  have hr' := Nat.mul_le_mul_left (fpMag x) (Nat.lt_succ_sqrt (2 ^ 447 / fpMag x))
  generalize Nat.sqrt (2 ^ 447 / fpMag x) = r at *
  have hn : r ≠ 0 := by omega
  have hlt : r < (2 ^ 25 - 1) * 2 ^ 252 * 1 := by omega
  rw [roundNear_eq_false_of_le nj false false (by omega)]
  have herr := roundNear_false_error hn Nat.one_pos false false hlt
  have hfin := fpFinite_roundNear_false hn Nat.one_pos false false hlt
  have hs := fpSign_roundNear false false false hn Nat.one_pos
  generalize roundNear false false false r 1 = y at *
  obtain ⟨hlo, hhi⟩ := rsqrt_square_bounds (y := fpMag y) (hr.trans hq)
    (hq'.trans (hr'.trans_eq (Nat.mul_comm _ _))) (by omega) (by omega)
  exact ⟨hfin, hs, hlo, hhi⟩

/-- Settles O53: as for the reciprocal, with `RsqrtBound`. -/
theorem reciprocalSquareRootEstimate : Obligations.ReciprocalSquareRootEstimate := by
  unfold Obligations.ReciprocalSquareRootEstimate
  intro s vD vB hv
  obtain ⟨t, he, hw, hel⟩ := exists_next_of_drawn (i := .vrsqrtefp vD vB) (vD := vD) hv rfl
  refine ⟨t, he, hw, fun k hk => ?_⟩
  rw [hel k hk]
  intro x y
  have hy : y = if fpIsNaN x then fpQuiet x else if fpIsZero x then fpInf (fpSign x) else if fpSign x then fpQNaN
      else if fpIsInf x then fpZero false
      else estimate (rsqrtPermitted x) _ (roundNear s.nj false false (root (2 ^ 447 / fpMag x)) 1) := rfl
  refine ⟨fun h => ?quiet, fun hn hz hs => ?negative, fun h => ?zero, fun h hs => ?infinite, fun hx hz hs => ?finite⟩
  case quiet => rw [hy, if_pos h, fpQuiet]
  case negative => rw [hy, hn, hz, hs, if_neg (by decide), if_neg (by decide), if_pos rfl, fpQNaN]
  case zero => rw [hy, fpIsNaN_of_zero h, h, if_neg (by decide), if_pos rfl]
  case infinite =>
    rw [hy, fpIsNaN_of_inf h, fpIsZero_of_inf h, hs, h, if_neg (by decide), if_neg (by decide), if_neg (by decide), if_pos rfl]
    rfl
  case finite =>
    rw [fpIsNaN_of_finite hx, hz, hs, fpIsInf_of_finite hx, if_neg (by decide), if_neg (by decide), if_neg (by decide),
      if_neg (by decide)] at hy
    change RsqrtBound x y
    rw [hy]
    exact estimate_elim (fun _ => RsqrtBound.of_permitted) (RsqrtBound.of_default hx hz s.nj)

end Sys2Proof.Machine
end

/-! # The power of two that the exponential and logarithm estimates are held to (43_float.md R383, R384)

`exp2Frac` is a chain of 149 square roots, of which the statements need little: it lies from 2^256 up to 2 * 2^256, exactly at the one
for no bits and strictly between the two otherwise. Each strict bound is an invariant of the chain that halves, or divides by three,
what is left of it at every root. -/
section
namespace Sys2Proof.Machine

/-! ## One root -/

/-- A root of at most twice what lies `2 * d` short of `2 * A + 2`, raised by one, lies `d` short of it. -/
theorem sqrt_succ_add_le {A c g d : Nat} (hA : 0 < A) (hc : c ≤ 2) (hg : g + 2 * d ≤ 2 * A + 2) :
    Nat.sqrt (c * g * A) + 1 + d ≤ 2 * A + 2 := by
  by_contra hlt
  have hr : Nat.sqrt (c * g * A) * Nat.sqrt (c * g * A) ≤ 2 * g * A :=
    (Nat.sqrt_le _).trans (Nat.mul_le_mul_right _ (Nat.mul_le_mul_right _ hc))
  obtain ⟨b, hb⟩ : ∃ b, 2 * A + 2 = b + d := ⟨2 * A + 2 - d, by omega⟩
  have hbr : b ≤ Nat.sqrt (c * g * A) := by omega
  have hbb : b * b ≤ 2 * g * A := (Nat.mul_le_mul hbr hbr).trans hr
  have hgA := Nat.mul_le_mul_right (2 * A) (show g + 2 * A + 2 ≤ 2 * b by omega)
  zify at hbb hgA hA
  nlinarith [sq_nonneg ((b : Int) - 2 * A)]

/-- A root of what lies `3 * d` above `A`, in units of `A`, lies `d` above it. -/
theorem add_le_sqrt {A g d : Nat} (hd : d ≤ A) (hg : A + 3 * d ≤ g) : A + d ≤ Nat.sqrt (g * A) := by
  rw [Nat.le_sqrt]
  nlinarith

/-! ## The chain of roots -/

theorem exp2Frac_succ (up : Bool) (f n : Nat) : exp2Frac up f (n + 1) =
    Nat.sqrt ((if f.testBit n then 2 else 1) * exp2Frac up f n * 2 ^ 256) + (if up then 1 else 0) := by
  rw [exp2Frac, root_eq_sqrt]

theorem exp2Frac_false_succ (f n : Nat) :
    exp2Frac false f (n + 1) = Nat.sqrt ((if f.testBit n then 2 else 1) * exp2Frac false f n * 2 ^ 256) := by
  rw [exp2Frac_succ, if_neg Bool.false_ne_true, Nat.add_zero]

theorem le_exp2Frac (up : Bool) (f n : Nat) : 2 ^ 256 ≤ exp2Frac up f n := by
  induction n with
  | zero => exact le_rfl
  | succ n ih =>
    rw [exp2Frac_succ]
    refine le_trans (Nat.le_sqrt.2 (Nat.mul_le_mul_right _ ?_)) (Nat.le_add_right _ _)
    split <;> omega

/-- No bits, no power. -/
theorem exp2Frac_false_zero (n : Nat) : exp2Frac false 0 n = 2 ^ 256 := by
  induction n with
  | zero => rfl
  | succ n ih =>
    rw [exp2Frac_false_succ, ih, Nat.zero_testBit, if_neg Bool.false_ne_true, Nat.one_mul, Nat.sqrt_eq]

theorem exp2Frac_false_le_true (f n : Nat) : exp2Frac false f n ≤ exp2Frac true f n := by
  induction n with
  | zero => exact le_rfl
  | succ n ih =>
    rw [exp2Frac_succ, exp2Frac_succ]
    exact Nat.add_le_add (Nat.sqrt_le_sqrt (Nat.mul_le_mul_right _ (Nat.mul_le_mul_left _ ih))) (by decide)

/-- Even rounded up, the chain does not reach the next power: what it lacks is halved at every root. -/
theorem exp2Frac_true_add_le (f : Nat) {n : Nat} (hn : n ≤ 151) : exp2Frac true f n + 2 ^ (151 - n) ≤ 2 * 2 ^ 256 + 2 := by
  induction n with
  | zero =>
    change 2 ^ 256 + 2 ^ 151 ≤ 2 * 2 ^ 256 + 2
    decide
  | succ n ih =>
    have hd : 2 ^ (151 - n) = 2 * 2 ^ (151 - (n + 1)) := by
      rw [← Nat.pow_succ', show 151 - n = (151 - (n + 1)).succ by omega]
    rw [exp2Frac_succ, if_pos rfl]
    refine sqrt_succ_add_le (by decide) ?_ (hd ▸ ih (by omega))
    split <;> decide

theorem exp2Frac_true_lt (f : Nat) : exp2Frac true f 149 < 2 * 2 ^ 256 := by
  have := exp2Frac_true_add_le f (show 149 ≤ 151 by decide)
  omega

/-- Even rounded down, a bit that is used is seen: at least a third of its effect is left at every root. -/
theorem add_le_exp2Frac_false (f : Nat) {n : Nat} (hn : n ≤ 149) (hf : f % 2 ^ n ≠ 0) :
    2 ^ 256 + 3 ^ (149 - n) ≤ exp2Frac false f n := by
  induction n with
  | zero => simp [Nat.mod_one] at hf
  | succ n ih =>
    have hd : 3 ^ (149 - n) = 3 * 3 ^ (149 - (n + 1)) := by
      rw [← Nat.pow_succ', show 149 - n = (149 - (n + 1)).succ by omega]
    have hsmall : 3 ^ (149 - n) ≤ 2 ^ 256 := (Nat.pow_le_pow_right (by decide) (Nat.sub_le 149 n)).trans (by decide)
    have hlo := le_exp2Frac false f n
    have hg : 2 ^ 256 + 3 ^ (149 - n) ≤ (if f.testBit n then 2 else 1) * exp2Frac false f n := by
      split
      · omega
      · next hbit =>
        have hf' : f % 2 ^ n ≠ 0 := by
          rw [Nat.testBit_eq_decide_div_mod_eq, decide_eq_true_iff] at hbit
          rw [Nat.mod_pow_succ, Nat.mod_two_ne_one.1 hbit] at hf
          exact hf
        have := ih (by omega) hf'
        omega
    rw [hd] at hg
    rw [exp2Frac_false_succ]
    exact add_le_sqrt (by omega) hg

theorem lt_exp2Frac_false {f : Nat} (h0 : f ≠ 0) (hf : f < 2 ^ 149) : 2 ^ 256 < exp2Frac false f 149 := by
  have := add_le_exp2Frac_false f le_rfl (by rwa [Nat.mod_eq_of_lt hf])
  omega

/-! ## The scaled power -/

section
variable {e : Int} {k : Nat}

theorem two_pow_le_exp2Scaled (up : Bool) (h : (k : Int) * 2 ^ 149 ≤ e + 512 * 2 ^ 149) : 2 ^ 256 * 2 ^ k ≤ exp2Scaled up e :=
  Nat.mul_le_mul (le_exp2Frac _ _ _) (Nat.pow_le_pow_right (by decide) (by omega))

theorem exp2Scaled_true_lt (h : e + 512 * 2 ^ 149 < ((k : Int) + 1) * 2 ^ 149) : exp2Scaled true e < 2 * 2 ^ 256 * 2 ^ k :=
  Nat.mul_lt_mul_of_lt_of_le (exp2Frac_true_lt _) (Nat.pow_le_pow_right (by decide) (by omega)) (by positivity)

theorem two_pow_lt_exp2Scaled_false (h : (k : Int) * 2 ^ 149 < e + 512 * 2 ^ 149) : 2 ^ 256 * 2 ^ k < exp2Scaled false e := by
  rcases Int.lt_or_le e (((k : Int) + 1) * 2 ^ 149 - 512 * 2 ^ 149) with hlt | hge
  · have hk : (e / 2 ^ 149 + 512).toNat = k := by omega
    rw [exp2Scaled, hk]
    exact Nat.mul_lt_mul_of_pos_right (lt_exp2Frac_false (by omega) (by omega)) (Nat.two_pow_pos k)
  · calc 2 ^ 256 * 2 ^ k < 2 ^ 256 * 2 ^ (k + 1) := Nat.mul_lt_mul_of_pos_left (Nat.pow_lt_pow_succ (by decide)) (by decide)
      _ ≤ exp2Scaled false e := two_pow_le_exp2Scaled false (by push_cast; omega)

/-- An integral power is exact. -/
theorem exp2Scaled_false_integral (h : e = (k - 512 : Int) * 2 ^ 149) : exp2Scaled false e = 2 ^ 256 * 2 ^ k := by
  have hf : (e % 2 ^ 149).toNat = 0 := by omega
  have hk : (e / 2 ^ 149 + 512).toNat = k := by omega
  rw [exp2Scaled, hf, hk, exp2Frac_false_zero]

theorem exp2Scaled_false_le_true (e : Int) : exp2Scaled false e ≤ exp2Scaled true e :=
  Nat.mul_le_mul_right _ (exp2Frac_false_le_true _ _)

end

end Sys2Proof.Machine
end

/-! # The estimate of 2^x (43_float.md R380, R383)

Beyond the ends of the range and at integers the result is fixed. Between two integers the statement brackets a permitted value
and the default by the powers at both; with x in [K - 150, K - 149) the scaled power lies from T * 2^K up to twice that, where 2 * T
is the scale of one unit, and the brackets are facts about natural numbers and one rounding. -/
section
namespace Sys2Proof.Machine

/-! ## Positive results -/

/-- A positive word is its bits. -/
theorem toNat_of_pos {y : Word} (h : fpSign y = false) : y.toNat = fpBits y := by
  rw [toNat_eq_sign_add_bits, h, if_neg Bool.false_ne_true, Nat.zero_add]

theorem fpSign_roundNear_pos (nj : Bool) (num : Nat) {den : Nat} (hd : 0 < den) :
    fpSign (roundNear nj false false num den) = false := by
  rcases Nat.eq_zero_or_pos num with rfl | hn
  · rw [roundNear_zero, fpSign_fpZero]
  · exact fpSign_roundNear nj false false hn.ne' hd

theorem toNat_roundNear_pos (nj : Bool) (num : Nat) {den : Nat} (hd : 0 < den) :
    (roundNear nj false false num den).toNat = fpBits (roundNear nj false false num den) :=
  toNat_of_pos (fpSign_roundNear_pos nj num hd)

/-- A word below a rounded positive value is positive and no NaN. -/
theorem pos_of_le_roundNear {nj : Bool} {num den : Nat} (hd : 0 < den) {y : Word} (h : y ≤ roundNear nj false false num den) :
    fpSign y = false ∧ fpIsNaN y = false := by
  have hle : y.toNat ≤ 0x7F800000 :=
    le_trans h ((toNat_roundNear_pos nj num hd).trans_le (fpBits_roundNear_le nj false false num hd))
  have hs : fpSign y = false := by
    rw [fpSign_eq, decide_eq_false_iff_not]
    omega
  rw [toNat_of_pos hs] at hle
  rw [fpIsNaN_eq, decide_eq_false_iff_not]
  exact ⟨hs, by omega⟩

/-- Positive words are ordered as their magnitudes. -/
theorem fpMag_le_of_le {v w : Word} (hv : fpSign v = false) (hw : fpSign w = false) (h : v ≤ w) : fpMag v ≤ fpMag w := by
  rw [fpMag_eq, fpMag_eq]
  refine bitsMag_strictMono.monotone ?_
  rw [← toNat_of_pos hv, ← toNat_of_pos hw]
  exact h

/-! ## Brackets between two integers -/

/-- What the statement says of the magnitude `N` of the result, for x between K - 150 and K - 149. -/
def Exp2Bracket (nj : Bool) (K N : Nat) : Prop :=
  ((nj = true → 25 ≤ K) → 4 ≤ K → K ≤ 277 → 15 * 2 ^ K ≤ 32 * N) ∧ (4 ≤ K → K ≤ 276 → 16 * N ≤ 17 * 2 ^ K) ∧
    (nj = false → K ≤ 3 → 15 * 2 ^ K ≤ 32 * N + 16 ∧ 32 * N ≤ 34 * 2 ^ K + 16)

section
variable {T K : Nat} (hT : 0 < T)
include hT

/-- The same, with the unit written out. -/
theorem Exp2Bracket.of_scaled {nj : Bool} {N : Nat}
    (h1 : (nj = true → 25 ≤ K) → 4 ≤ K → K ≤ 277 → 15 * (T * 2 ^ K) ≤ 32 * (T * N))
    (h2 : 4 ≤ K → K ≤ 276 → 16 * (T * N) ≤ 17 * (T * 2 ^ K))
    (h3 : nj = false → K ≤ 3 → 15 * (T * 2 ^ K) ≤ 32 * (T * N) + 16 * T ∧ 32 * (T * N) ≤ 34 * (T * 2 ^ K) + 16 * T) :
    Exp2Bracket nj K N := by
  refine ⟨fun hnj ha hb => ?_, fun ha hb => ?_, fun ha hb => ⟨?_, ?_⟩⟩
  · exact Nat.le_of_mul_le_mul_left (by linarith [h1 hnj ha hb]) hT
  · exact Nat.le_of_mul_le_mul_left (by linarith [h2 ha hb]) hT
  · exact Nat.le_of_mul_le_mul_left (by linarith [(h3 ha hb).1]) hT
  · exact Nat.le_of_mul_le_mul_left (by linarith [(h3 ha hb).2]) hT

/-- The rounded power is within the brackets. -/
theorem Exp2Bracket.of_default (nj : Bool) (hK : nj = true → 24 ≤ K) {S D : Nat} (hD : D = 2 * T) (hlo : T * 2 ^ K ≤ S)
    (hhi : S < 2 * (T * 2 ^ K)) : Exp2Bracket nj K (fpMag (roundNear nj false false S D)) := by
  subst hD
  have hd : 0 < 2 * T := by omega
  have hpow : 0 < T * 2 ^ K := by positivity
  have hn : S ≠ 0 := by omega
  have hlarge {j : Nat} (h : j ≤ K) : T * 2 ^ j ≤ T * 2 ^ K := Nat.mul_le_mul_left T (Nat.pow_le_pow_right (by decide) h)
  have hsmall {j : Nat} (h : K ≤ j) : T * 2 ^ K ≤ T * 2 ^ j := Nat.mul_le_mul_left T (Nat.pow_le_pow_right (by decide) h)
  have hfalse : roundNear nj false false S (2 * T) = roundNear false false false S (2 * T) := by
    cases nj
    · rfl
    · exact roundNear_eq_false_of_le _ _ _ (by have := hlarge (hK rfl); omega)
  rw [hfalse]
  rcases Nat.lt_or_ge S ((2 ^ 25 - 1) * 2 ^ 252 * (2 * T)) with hlt | hge
  · have herr := roundNear_false_error hn hd false false hlt
    generalize fpMag (roundNear false false false S (2 * T)) = N at *
    have hN : (N : Int) * (2 * T : Nat) = 2 * (T * N : Nat) := by push_cast; ring
    rw [hN] at herr
    refine .of_scaled hT (fun _ ha hb => ?_) (fun ha hb => ?_) (fun ha hb => ?_)
    · have := hlarge ha
      omega
    · have := hlarge ha
      omega
    · have := hsmall hb
      omega
  · have hK' : 277 ≤ K := by
      by_contra hlt
      have := hsmall (show K ≤ 276 by omega)
      omega
    rw [roundNear_false_of_overflow hn hd _ _ hge, fpMag_of_inf ((fpIsInf_iff _).2 (fpBits_fpInf _))]
    refine ⟨fun _ _ hb => ?_, by omega, by omega⟩
    have := Nat.pow_le_pow_right (n := 2) (by decide) hb
    omega

/-- A permitted value is within the brackets: `S` and `S'` are the power, rounded down and up. -/
theorem Exp2Bracket.of_between (nj : Bool) {S S' D : Nat} (hD : D = 32 * T) (hlo : T * 2 ^ K ≤ S) (hSS : S ≤ S')
    (hhi : S' < 2 * (T * 2 ^ K)) {y : Word}
    (hge : (nj = true → 25 ≤ K) → fpMag (roundNear false false false (S * 15) D) ≤ fpMag y)
    (hle : fpMag y ≤ fpMag (roundNear false false false (S' * 17) D))
    (hclass : ((fpIsInf y = true ∨ fpIsZero y = true) ∨ S' * 17 / D * D < S * 15) ∨
      S * 15 ≤ fpMag y * D ∧ fpMag y * D ≤ S' * 17) : Exp2Bracket nj K (fpMag y) := by
  subst hD
  have hd : 0 < 32 * T := by omega
  have hpow : 0 < T * 2 ^ K := by positivity
  have hlarge {j : Nat} (h : j ≤ K) : T * 2 ^ j ≤ T * 2 ^ K := Nat.mul_le_mul_left T (Nat.pow_le_pow_right (by decide) h)
  have hsmall {j : Nat} (h : K ≤ j) : T * 2 ^ K ≤ T * 2 ^ j := Nat.mul_le_mul_left T (Nat.pow_le_pow_right (by decide) h)
  have hN (N : Nat) : (N : Int) * (32 * T : Nat) = 32 * (T * N : Nat) := by push_cast; ring
  have hN' (N : Nat) : N * (32 * T) = 32 * (T * N) := by ring
  by_cases hK : K ≤ 3
  · have hub := hsmall hK
    have herr := roundNear_false_error (num := S * 15) (by omega) hd false false (by omega)
    have herr' := roundNear_false_error (num := S' * 17) (by omega) hd false false (by omega)
    have hle' := Nat.mul_le_mul_left T hle
    rw [hN] at herr herr'
    refine .of_scaled hT (by omega) (by omega) fun hnj _ => ?_
    have hge' := Nat.mul_le_mul_left T (hge (by simp [hnj]))
    omega
  · have hlb := hlarge (show 4 ≤ K by omega)
    rcases hclass with ((hinf | hzero) | hnone) | ⟨hge', hle'⟩
    · have hfin (hb : K ≤ 276) : fpFinite (roundNear false false false (S' * 17) (32 * T)) = true := by
        have := hsmall hb
        exact fpFinite_roundNear_false (by omega) hd _ _ (by omega)
      rw [fpMag_of_inf hinf] at hle ⊢
      refine ⟨fun _ _ hb => ?_, fun _ hb => ?_, by omega⟩
      · have := Nat.pow_le_pow_right (n := 2) (by decide) hb
        omega
      · have := fpMag_le_of_finite (hfin hb)
        omega
    · have hone : fpMag 1 = 1 := by decide
      have := le_fpMag_roundNear_false (num := S * 15) (w := 1) (by omega) hd false false (by decide) (by rw [hone]; omega)
      rw [← fpMag_eq_zero_iff] at hzero
      refine ⟨fun hnj _ _ => ?_, by omega, by omega⟩
      have := hge hnj
      omega
    · have := Nat.lt_div_mul_add (a := S' * 17) hd
      omega
    · rw [hN'] at hge' hle'
      exact .of_scaled hT (by omega) (by omega) (by omega)

end

/-! ## Everything the statement says of a finite operand -/

/-- What the statement says of the estimate `y` of 2^x, for a finite x of value e / 2^149 that is not zero. -/
def Exp2Bound (nj : Bool) (e : Int) (y : Word) : Prop :=
  fpIsNaN y = false ∧ fpSign y = false ∧
    (∀ n : Int, -126 ≤ n → n ≤ 127 → e = n * 2 ^ 149 → y = BitVec.ofInt 32 ((n + 127) * 2 ^ 23)) ∧
    (nj = false → ∀ n : Int, -149 ≤ n → n ≤ -127 → e = n * 2 ^ 149 → y = BitVec.ofNat 32 (2 ^ (n + 149).toNat)) ∧
    (∀ n : Int, n * 2 ^ 149 < e → e < (n + 1) * 2 ^ 149 →
      ((if nj then -125 else -146) ≤ n → n ≤ 127 → 15 * 2 ^ (n + 149).toNat ≤ 16 * fpMag y) ∧
      ((if nj then -126 else -146) ≤ n → n ≤ 126 → 16 * fpMag y ≤ 17 * 2 ^ (n + 150).toNat) ∧
      (nj = false → -150 ≤ n → n ≤ -147 →
        15 * 2 ^ (n + 150).toNat ≤ 32 * fpMag y + 16 ∧ 32 * fpMag y ≤ 34 * 2 ^ (n + 150).toNat + 16)) ∧
    (128 * 2 ^ 149 ≤ e → y = 0x7F800000) ∧ (e < -150 * 2 ^ 149 → y = 0) ∧ (nj = true → e < -126 * 2 ^ 149 → y = 0)

variable {nj : Bool} {e : Int}

theorem Exp2Bound.of_overflow (h : 128 * 2 ^ 149 ≤ e) : Exp2Bound nj e (fpInf false) := by
  refine ⟨fpIsNaN_of_inf ((fpIsInf_iff _).2 (fpBits_fpInf _)), fpSign_fpInf _, fun n _ _ _ => by omega, fun _ n _ _ _ => by omega,
    fun n h1 h2 => ⟨by omega, by omega, by omega⟩, fun _ => rfl, by omega, by omega⟩

theorem Exp2Bound.of_underflow (h : e < -150 * 2 ^ 149 ∨ nj = true ∧ e < -126 * 2 ^ 149) : Exp2Bound nj e (fpZero false) := by
  have hlt : e < -126 * 2 ^ 149 := by omega
  have hlt' : nj = false → e < -150 * 2 ^ 149 := by
    rintro rfl
    exact h.resolve_right fun h => absurd h.1 (by decide)
  refine ⟨fpIsNaN_of_zero (fpIsZero_fpZero _), fpSign_fpZero _, fun n _ _ _ => by omega,
    fun hnj n _ _ _ => by have := hlt' hnj; omega, fun n h1 h2 => ⟨?_, ?_, fun hnj => by have := hlt' hnj; omega⟩,
    by omega, fun _ => rfl, fun _ _ => rfl⟩
  all_goals
    cases nj
    · have := hlt' rfl
      simp only [Bool.false_eq_true, if_false]
      omega
    · simp only [if_true]
      omega

/-- A positive value that is a single-precision number is kept, by non-Java mode from 2^-126 on. -/
theorem roundNear_eq_self_of_pos {S D : Nat} (hD : 0 < D) {w : Word} (hw : fpFinite w = true) (hs : fpSign w = false)
    (hm : fpMag w ≠ 0) (hS : S = fpMag w * D) (hnj : nj = true → 8388608 ≤ fpMag w) : roundNear nj false false S D = w := by
  have hn : S ≠ 0 := by rw [hS]; positivity
  have hself := roundNear_false_eq_self hn hD false hw hS
  rw [hs] at hself
  cases nj
  · exact hself
  · rw [roundNear_eq_false_of_le _ _ _ (hS ▸ Nat.mul_le_mul_right D (hnj rfl)), hself]

/-- The number 2^(j - 126), normalized. -/
theorem fpMag_normal_power {j : Nat} (hj : j ≤ 253) : fpMag (fpPack false (j * 8388608 + 8388608)) = 8388608 * 2 ^ j := by
  rw [fpMag_eq, fpBits_fpPack false (by omega), bitsMag_add (by omega) (by omega)]

/-- The number 2^(j - 149), denormalized. -/
theorem fpMag_denormalized_power {j : Nat} (hj : j ≤ 22) : fpMag (fpPack false (2 ^ j)) = 2 ^ j := by
  have hle : 2 ^ j ≤ 2 ^ 22 := Nat.pow_le_pow_right (by decide) hj
  rw [fpMag_eq, fpBits_fpPack false (by omega), bitsMag, if_pos (by omega)]

/-- Within the range an integral power is exact. -/
theorem Exp2Bound.of_integral (hover : e < 128 * 2 ^ 149) (hunder : ¬ (e < -150 * 2 ^ 149 ∨ nj = true ∧ e < -126 * 2 ^ 149))
    (hint : e % 2 ^ 149 = 0) (hlo : -149 * 2 ^ 149 ≤ e) :
    Exp2Bound nj e (roundNear nj false false (exp2Scaled false e) (2 ^ 619)) := by
  have hd : 0 < 2 ^ 619 := by positivity
  refine ⟨fpIsNaN_roundNear _ _ _ _ hd, fpSign_roundNear_pos _ _ hd, fun n h1 h2 he => ?normal, fun hnj n h1 h2 he => ?denormalized,
    fun n h1 h2 => by omega, by omega, by omega, fun hnj h => absurd (.inr ⟨hnj, h⟩) hunder⟩
  case normal =>
    obtain ⟨j, hj⟩ : ∃ j : Nat, n + 126 = j := ⟨(n + 126).toNat, by omega⟩
    have hw : BitVec.ofInt 32 ((n + 127) * 2 ^ 23) = fpPack false (j * 8388608 + 8388608) := by
      rw [show (n + 127) * 2 ^ 23 = ((j * 8388608 + 8388608 : Nat) : Int) by push_cast; omega, BitVec.ofInt_natCast, fpPack,
        if_neg Bool.false_ne_true, Nat.zero_add]
    have hS : exp2Scaled false e = 2 ^ 23 * 2 ^ j * 2 ^ 619 := by
      rw [exp2Scaled_false_integral (k := j + 386) (by push_cast; omega), ← pow_add, ← pow_add, ← pow_add,
        show 256 + (j + 386) = 23 + j + 619 by omega]
    have hmag := fpMag_normal_power (j := j) (by omega)
    have hpow := Nat.one_le_two_pow (n := j)
    rw [hw]
    refine roundNear_eq_self_of_pos hd ?_ (fpSign_fpPack _ (by omega)) (by omega) (by rw [hmag]; exact hS) (by omega)
    rw [fpFinite_iff, fpBits_fpPack _ (by omega)]
    omega
  case denormalized =>
    obtain ⟨j, hj⟩ : ∃ j : Nat, n + 149 = j := ⟨(n + 149).toNat, by omega⟩
    have hw : BitVec.ofNat 32 (2 ^ (n + 149).toNat) = fpPack false (2 ^ j) := by
      rw [show (n + 149).toNat = j by omega, fpPack, if_neg Bool.false_ne_true, Nat.zero_add]
    have hS : exp2Scaled false e = 2 ^ j * 2 ^ 619 := by
      rw [exp2Scaled_false_integral (k := j + 363) (by push_cast; omega), ← pow_add, ← pow_add,
        show 256 + (j + 363) = j + 619 by omega]
    have hmag := fpMag_denormalized_power (j := j) (by omega)
    have hle : 2 ^ j ≤ 2 ^ 22 := Nat.pow_le_pow_right (by decide) (by omega)
    have hpow := Nat.one_le_two_pow (n := j)
    rw [hw]
    refine roundNear_eq_self_of_pos hd ?_ (fpSign_fpPack _ (by omega)) (by omega) (by rw [hmag]; exact hS) (by simp [hnj])
    rw [fpFinite_iff, fpBits_fpPack _ (by omega)]
    omega

/-- Elsewhere within the range the brackets are all there is to say. -/
theorem Exp2Bound.of_bracket (hover : e < 128 * 2 ^ 149) (hunder : ¬ (e < -150 * 2 ^ 149 ∨ nj = true ∧ e < -126 * 2 ^ 149))
    (hint : ¬ (e % 2 ^ 149 = 0 ∧ -149 * 2 ^ 149 ≤ e)) {y : Word} (hs : fpSign y = false) (hnan : fpIsNaN y = false)
    (h : ∀ K : Nat, (K - 150 : Int) * 2 ^ 149 < e → e < (K - 149 : Int) * 2 ^ 149 → Exp2Bracket nj K (fpMag y)) : Exp2Bound nj e y := by
  refine ⟨hnan, hs, fun n _ _ he => by omega, fun _ n _ _ he => by omega, fun n h1 h2 => ?_, by omega, by omega,
    fun hnj h => absurd (.inr ⟨hnj, h⟩) hunder⟩
  have hn : -150 ≤ n := by omega
  obtain ⟨K, hK⟩ : ∃ K : Nat, n + 150 = K := ⟨(n + 150).toNat, by omega⟩
  obtain ⟨hb1, hb2, hb3⟩ := h K (by omega) (by omega)
  have htop : (n + 150).toNat = K := by omega
  rw [htop]
  refine ⟨fun h3 h4 => ?_, fun h3 h4 => ?_, fun hnj _ h4 => hb3 hnj (by omega)⟩
  · have h4' : 4 ≤ K := by split at h3 <;> omega
    have hnj : nj = true → 25 ≤ K := by
      rintro rfl
      simp only [if_true] at h3
      omega
    have := hb1 hnj h4' (by omega)
    rw [show K = (n + 149).toNat + 1 by omega, pow_succ] at this
    omega
  · have h4' : 4 ≤ K := by split at h3 <;> omega
    exact hb2 h4' (by omega)

/-- The scaled power between two integers, in the units of `Exp2Bracket`. -/
theorem exp2Scaled_between {K : Nat} (h1 : (K - 150 : Int) * 2 ^ 149 < e) (h2 : e < (K - 149 : Int) * 2 ^ 149) :
    2 ^ 618 * 2 ^ K ≤ exp2Scaled false e ∧ exp2Scaled true e < 2 * (2 ^ 618 * 2 ^ K) := by
  have hT : 2 ^ 618 * 2 ^ K = 2 ^ 256 * 2 ^ (K + 362) := by rw [← pow_add, ← pow_add]; congr 1; omega
  rw [hT, ← Nat.mul_assoc]
  exact ⟨two_pow_le_exp2Scaled false (by push_cast; omega), exp2Scaled_true_lt (by push_cast; omega)⟩

/-- A bound of the power, in sixteenths of its own scale, that is no denormalized number. -/
theorem le_exp2Scaled_of_le {K j c S : Nat} (hS : 2 ^ 618 * 2 ^ K ≤ S) (hj : j ≤ K) (hc : 8388608 * 32 ≤ 2 ^ j * c) :
    8388608 * 2 ^ 623 ≤ S * c :=
  calc 8388608 * 2 ^ 623 = 2 ^ 618 * (8388608 * 32) := by omega
    _ ≤ 2 ^ 618 * (2 ^ j * c) := Nat.mul_le_mul_left _ hc
    _ = 2 ^ 618 * 2 ^ j * c := (Nat.mul_assoc _ _ _).symm
    _ ≤ S * c := Nat.mul_le_mul_right c ((Nat.mul_le_mul_left _ (Nat.pow_le_pow_right (by decide) hj)).trans hS)

theorem Exp2Bound.of_default : Exp2Bound nj e (exp2Default nj e) := by
  unfold exp2Default
  split
  · next h => exact .of_overflow h
  split
  · next h => exact .of_underflow h
  next hover hunder =>
  by_cases hint : e % 2 ^ 149 = 0 ∧ -149 * 2 ^ 149 ≤ e
  · exact .of_integral (by omega) hunder hint.1 hint.2
  · have hd : 0 < 2 ^ 619 := by positivity
    refine .of_bracket (by omega) hunder hint (fpSign_roundNear_pos _ _ hd) (fpIsNaN_roundNear _ _ _ _ hd) fun K h1 h2 => ?_
    obtain ⟨hlo, hhi⟩ := exp2Scaled_between h1 h2
    exact .of_default (by positivity) nj (fun hnj => by simp [hnj] at hunder; omega) (by omega) hlo
      ((exp2Scaled_false_le_true e).trans_lt hhi)

theorem Exp2Bound.of_permitted {y : Word} (h : exp2Permitted nj e y = true) : Exp2Bound nj e y := by
  simp only [exp2Permitted] at h
  split at h
  · next hover =>
    rw [beq_iff_eq] at h
    exact h ▸ .of_overflow hover
  split at h
  · next hunder =>
    rw [beq_iff_eq] at h
    exact h ▸ .of_underflow hunder
  split at h
  · next hover hunder hint =>
    rw [beq_iff_eq] at h
    exact h ▸ .of_integral (by omega) hunder hint.1 hint.2
  · next hover hunder hint =>
    have hd : 0 < 2 ^ 623 := by positivity
    have hD : 2 ^ 623 = 32 * 2 ^ 618 := by omega
    simp only [Bool.and_eq_true, Bool.or_eq_true, decide_eq_true_eq] at h
    obtain ⟨⟨⟨hge, hle⟩, -⟩, hclass⟩ := h
    obtain ⟨hs, hnan⟩ := pos_of_le_roundNear hd hle
    refine .of_bracket (by omega) hunder hint hs hnan fun K h1 h2 => ?_
    obtain ⟨hlo, hhi⟩ := exp2Scaled_between h1 h2
    have hSS := exp2Scaled_false_le_true e
    have hge' := fpMag_le_of_le (fpSign_roundNear_pos _ _ hd) hs hge
    have hle' := fpMag_le_of_le hs (fpSign_roundNear_pos _ _ hd) hle
    refine .of_between (T := 2 ^ 618) (by positivity) nj hD hlo hSS hhi (fun hnj => ?_) ?_ hclass
    · cases nj
      · exact hge'
      · rw [roundNear_eq_false_of_le _ _ _ (le_exp2Scaled_of_le hlo (hnj rfl) (by decide))] at hge'
        exact hge'
    · cases nj
      · exact hle'
      · have hK : 24 ≤ K := by
          simp only [true_and] at hunder
          omega
        rw [roundNear_eq_false_of_le _ _ _ (le_exp2Scaled_of_le (hlo.trans hSS) hK (by decide))] at hle'
        exact hle'

end Sys2Proof.Machine
end

/-! # The estimate of log2(x) (43_float.md R380, R384, R393)

A permitted value is held by the powers of two within 1/32 of it, which the bounds of the scaled power turn into the brackets. The
default is a quadratic between the powers of two, itself within the brackets; its rounding error is far below 1/32. -/
section
namespace Sys2Proof.Machine

/-! ## The error of rounding a signed value -/

theorem fpVal_roundNear (nj z s : Bool) {num den : Nat} (hn : num ≠ 0) (hd : 0 < den) :
    fpVal (roundNear nj z s num den) =
      if s then -(fpMag (roundNear nj z s num den) : Int) else fpMag (roundNear nj z s num den) := by
  rw [fpVal, fpSign_roundNear nj z s hn hd]

/-- Short of overflow a rounded value is finite, and it is off by 2^-24 of itself, or of 2^-102: non-Java mode flushes below 2^-126. -/
theorem roundVal_error (nj z : Bool) (num : Int) {den : Nat} (hd : 0 < den) (h : num.natAbs < (2 ^ 25 - 1) * 2 ^ 252 * den) :
    fpFinite (roundVal nj z num den) = true ∧ (nj = true → fpIsDenorm (roundVal nj z num den) = false) ∧
      16777216 * (num - fpVal (roundVal nj z num den) * den).natAbs ≤ max num.natAbs (2 ^ 47 * den) := by
  have hden : nj = true → fpIsDenorm (roundVal nj z num den) = false := by
    rintro rfl
    exact fpIsDenorm_roundNear_true _ _ _ hd
  rcases eq_or_ne num 0 with rfl | hn
  · rw [roundVal_zero, fpVal_fpZero, fpFinite_iff, fpBits_fpZero] at *
    exact ⟨by decide, hden, by simp⟩
  have hn' := Int.natAbs_ne_zero.2 hn
  by_cases hflush : nj = true ∧ num.natAbs < 8388608 * den
  · obtain ⟨rfl, hlt⟩ := hflush
    have hy : roundVal true z num den = fpZero (decide (num < 0)) := roundNear_true_of_lt _ _ hn' hlt
    refine ⟨?_, hden, ?_⟩
    · rw [hy, fpFinite_iff, fpBits_fpZero]
      decide
    · rw [hy, fpVal_fpZero, Int.zero_mul, Int.sub_zero]
      omega
  · have hy : roundVal nj z num den = roundNear false z (decide (num < 0)) num.natAbs den := by
      cases nj
      · rfl
      · exact roundNear_eq_false_of_le _ _ _ (Nat.not_lt.1 fun h => hflush ⟨rfl, h⟩)
    have herr := roundNear_false_error hn' hd z (decide (num < 0)) h
    have hval := fpVal_roundNear false z (decide (num < 0)) hn' hd
    have hfin := fpFinite_roundNear_false hn' hd z (decide (num < 0)) h
    rw [← hy] at herr hval hfin
    refine ⟨hfin, hden, ?_⟩
    rw [hval]
    split
    · next hneg =>
      rw [decide_eq_true_iff] at hneg
      rw [Int.neg_mul]
      omega
    · next hneg =>
      rw [decide_eq_true_iff] at hneg
      omega

/-! ## Everything the statement says of a finite positive operand -/

/-- What the statement says of the estimate `y` of log2(x), for a finite positive `x`. -/
def Log2Bound (nj : Bool) (x y : Word) : Prop :=
  fpFinite y = true ∧ (nj = true → fpIsDenorm y = false) ∧
    ∀ l : Nat, 2 ^ l ≤ fpMag x → fpMag x < 2 ^ (l + 1) →
      ((l : Int) - 149) * 2 ^ 149 - 2 ^ 144 ≤ fpVal y ∧ fpVal y ≤ ((l : Int) - 148) * 2 ^ 149 + 2 ^ 144 ∧
      (fpMag x = 2 ^ l → fpVal y ≤ ((l : Int) - 149) * 2 ^ 149 + 2 ^ 144)

/-- A power of two in the units of a magnitude, in those of the scaled power. -/
theorem two_pow_mul_619 (l : Nat) : 2 ^ l * 2 ^ 619 = 2 ^ 256 * 2 ^ (l + 363) := by
  rw [← pow_add, ← pow_add, show l + 619 = 256 + (l + 363) by omega]

theorem Log2Bound.of_permitted {nj : Bool} {x y : Word} (h : log2Permitted nj x y = true) : Log2Bound nj x y := by
  simp only [log2Permitted, Bool.and_eq_true, Bool.not_eq_true', decide_eq_true_eq, Bool.and_eq_false_iff] at h
  obtain ⟨⟨⟨⟨hnan, hmag⟩, hden⟩, hlo⟩, hhi⟩ := h
  have hinf : fpIsInf y = false := by
    rw [← Bool.not_eq_true]
    intro hi
    rw [fpMag_of_inf hi] at hmag
    omega
  have hpos : 0 < 2 ^ 619 := by positivity
  refine ⟨fpFinite_of_class hnan hinf, fun hnj => hden.resolve_left (by simp [hnj]), fun l h1 h2 => ⟨?below, ?above, fun h3 => ?power⟩⟩
  case below =>
    by_contra hlt
    have hup := exp2Scaled_true_lt (e := fpVal y + 2 ^ 144) (k := l + 362) (by push_cast; omega)
    have h1' := Nat.mul_le_mul_right (2 ^ 619) h1
    rw [two_pow_mul_619, show l + 363 = l + 362 + 1 by omega, pow_succ] at h1'
    omega
  case above =>
    by_contra hgt
    have := two_pow_lt_exp2Scaled_false (e := fpVal y - 2 ^ 144) (k := l + 364) (by push_cast; omega)
    have h2' := Nat.mul_lt_mul_of_pos_right h2 hpos
    rw [two_pow_mul_619, show l + 1 + 363 = l + 364 by omega] at h2'
    omega
  case power =>
    by_contra hgt
    have := two_pow_lt_exp2Scaled_false (e := fpVal y - 2 ^ 144) (k := l + 363) (by push_cast; omega)
    rw [h3, two_pow_mul_619] at hlo
    omega

/-- The quadratic of the default, as it is written there, is the integer part and a fraction that is at most 1, and 0 at a power of two. -/
theorem log2Default_num (L p f : Int) (h0 : 0 ≤ f) (hf : f ≤ p) : ∃ g : Int, 0 ≤ g ∧ g ≤ 32 * (p * p) ∧ (f = 0 → g = 0) ∧
    2 ^ 149 * (32 * p * (L * p + f) + 11 * f * (p - f)) = 2 ^ 149 * (L * (32 * (p * p)) + g) := by
  refine ⟨32 * p * f + 11 * f * (p - f), ?_, ?_, ?_, by ring⟩
  · have := mul_nonneg h0 (sub_nonneg.2 hf)
    have := mul_nonneg (h0.trans hf) h0
    nlinarith
  · have := mul_nonneg h0 (sub_nonneg.2 hf)
    have := mul_nonneg (h0.trans hf) (sub_nonneg.2 hf)
    nlinarith [mul_self_nonneg (p - f)]
  · rintro rfl
    ring

/-- The default, for x of magnitude 2^l + f. -/
theorem log2Default_eq (nj : Bool) {x : Word} {l f : Nat} (hl : Nat.log2 (fpMag x) = l) (hf : fpMag x = 2 ^ l + f) :
    log2Default nj x = roundVal nj false
      (2 ^ 149 * (32 * (2 ^ l : Nat) * (((l : Int) - 149) * (2 ^ l : Nat) + f) + 11 * f * ((2 ^ l : Nat) - f)))
      (32 * 2 ^ (2 * l)) := by
  have hsub : ((2 ^ l + f : Nat) : Int) - 2 ^ l = f := by push_cast; ring
  have hpow : ((2 ^ l : Nat) : Int) = 2 ^ l := by push_cast; rfl
  rw [log2Default, hl]
  simp only [hf, hsub, hpow]

/-- The default is within the brackets, and its error is far below the 1/32 by which they are open. -/
theorem Log2Bound.of_default (nj : Bool) {x : Word} (hx : fpFinite x = true) (hz : fpIsZero x = false) :
    Log2Bound nj x (log2Default nj x) := by
  have hmag := fpMag_le_of_finite hx
  have hpos : fpMag x ≠ 0 := by rw [Ne, fpMag_eq_zero_iff, hz]; decide
  obtain ⟨l, hl⟩ : ∃ l, Nat.log2 (fpMag x) = l := ⟨_, rfl⟩
  obtain ⟨hlo, hhi⟩ := (Nat.log2_eq_iff hpos).1 hl
  have hl276 : l ≤ 276 := by
    by_contra hgt
    have := Nat.pow_le_pow_right (n := 2) (by decide) (show 277 ≤ l by omega)
    omega
  obtain ⟨f, hf⟩ : ∃ f, fpMag x = 2 ^ l + f := ⟨fpMag x - 2 ^ l, by omega⟩
  rw [pow_succ] at hhi
  obtain ⟨g, hg0, hg1, hgf, hnum⟩ := log2Default_num ((l : Int) - 149) (2 ^ l : Nat) f (by omega) (by omega)
  have hD : 32 * 2 ^ (2 * l) = 32 * (2 ^ l * 2 ^ l) := by rw [two_mul, pow_add]
  rw [log2Default_eq nj hl hf, hnum, hD]
  have hDpos : 0 < 32 * (2 ^ l * 2 ^ l) := by positivity
  generalize hd : 32 * (2 ^ l * 2 ^ l) = D at *
  have hDcast : (32 * ((2 ^ l : Nat) * (2 ^ l : Nat)) : Int) = D := by rw [← hd]; push_cast; rfl
  rw [hDcast] at hg1 ⊢
  have hLD : -149 * (D : Int) ≤ ((l : Int) - 149) * D ∧ ((l : Int) - 149) * D ≤ 127 * D :=
    ⟨Int.mul_le_mul_of_nonneg_right (by omega) (by omega), Int.mul_le_mul_of_nonneg_right (by omega) (by omega)⟩
  obtain ⟨hfin, hden, herr⟩ := roundVal_error nj false (2 ^ 149 * (((l : Int) - 149) * D + g)) hDpos (by omega)
  refine ⟨hfin, hden, fun k h1 h2 => ?_⟩
  obtain rfl : l = k := hl.symm.trans ((Nat.log2_eq_iff hpos).2 ⟨h1, h2⟩)
  generalize fpVal (roundVal nj false (2 ^ 149 * (((l : Int) - 149) * D + g)) D) = v at *
  have hcancel {a : Int} (h : a * D ≤ v * D) : a ≤ v := le_of_mul_le_mul_right h (by omega)
  have hcancel' {a : Int} (h : v * D ≤ a * D) : v ≤ a := le_of_mul_le_mul_right h (by omega)
  refine ⟨hcancel ?_, hcancel' ?_, fun h3 => hcancel' ?_⟩
  · rw [Int.sub_mul, Int.mul_right_comm]
    omega
  · rw [Int.add_mul, Int.mul_right_comm, show (l : Int) - 148 = l - 149 + 1 by omega, Int.add_mul]
    omega
  · have := hgf (by omega)
    rw [Int.add_mul, Int.mul_right_comm]
    omega

end Sys2Proof.Machine
end

/-! # The estimates of 2^x and log2(x) as statements

Their theorems are named as the model's own functions of `Sys2Proof.Machine` are, and stand in a namespace of their own. -/
section
namespace Sys2Proof.Estimates
open Sys2Proof.Machine

/-- Settles O54: as for the reciprocal, with `Exp2Bound`. -/
theorem exp2Estimate : Obligations.Exp2Estimate := by
  unfold Obligations.Exp2Estimate
  intro s vD vB hv
  obtain ⟨t, he, hw, hel⟩ := exists_next_of_drawn (i := .vexptefp vD vB) (vD := vD) hv rfl
  refine ⟨t, he, hw, fun k hk => ?_⟩
  rw [hel k hk]
  intro x y
  have hy : y = if fpIsNaN x then fpQuiet x else if fpIsInf x then (if fpSign x then fpZero false else x) else if fpIsZero x then fpOne
      else estimate (exp2Permitted s.nj (fpVal x)) _ (exp2Default s.nj (fpVal x)) := rfl
  refine ⟨fun h => ?quiet, fun h => ?infinite, fun h => ?zero, fun hx hz => ?finite⟩
  case quiet => rw [hy, if_pos h, fpQuiet]
  case infinite =>
    rw [hy, fpIsNaN_of_inf h, h, if_neg (by decide), if_pos rfl]
    rfl
  case zero =>
    rw [hy, fpIsNaN_of_zero h, fpIsInf_of_zero h, h, if_neg (by decide), if_neg (by decide), if_pos rfl, fpOne]
  case finite =>
    rw [fpIsNaN_of_finite hx, fpIsInf_of_finite hx, hz, if_neg (by decide), if_neg (by decide), if_neg (by decide)] at hy
    change Exp2Bound s.nj (fpVal x) y
    rw [hy]
    exact estimate_elim (fun _ => Exp2Bound.of_permitted) Exp2Bound.of_default

/-- Settles O55: as for the reciprocal, with `Log2Bound`. -/
theorem log2Estimate : Obligations.Log2Estimate := by
  unfold Obligations.Log2Estimate
  intro s vD vB hv
  obtain ⟨t, he, hw, hel⟩ := exists_next_of_drawn (i := .vlogefp vD vB) (vD := vD) hv rfl
  refine ⟨t, he, hw, fun k hk => ?_⟩
  rw [hel k hk]
  intro x y
  have hy : y = if fpIsNaN x then fpQuiet x else if fpIsZero x then fpInf true else if fpSign x then fpQNaN
      else if fpIsInf x then x else estimate (log2Permitted s.nj x) _ (log2Default s.nj x) := rfl
  refine ⟨fun h => ?quiet, fun hn hz hs => ?negative, fun h => ?zero, fun h hs => ?infinite, fun hx hz hs => ?finite⟩
  case quiet => rw [hy, if_pos h, fpQuiet]
  case negative => rw [hy, hn, hz, hs, if_neg (by decide), if_neg (by decide), if_pos rfl, fpQNaN]
  case zero =>
    rw [hy, fpIsNaN_of_zero h, h, if_neg (by decide), if_pos rfl]
    rfl
  case infinite =>
    rw [hy, fpIsNaN_of_inf h, fpIsZero_of_inf h, hs, h, if_neg (by decide), if_neg (by decide), if_neg (by decide), if_pos rfl]
  case finite =>
    rw [fpIsNaN_of_finite hx, hz, hs, fpIsInf_of_finite hx, if_neg (by decide), if_neg (by decide), if_neg (by decide),
      if_neg (by decide)] at hy
    change Log2Bound s.nj x y
    rw [hy]
    exact estimate_elim (fun _ => Log2Bound.of_permitted) (Log2Bound.of_default s.nj hx hz)

end Sys2Proof.Estimates
end

/-! # Pack, unpack, merge, splat, permute, select and the shifts of a whole register (44_permute.md R420 to R462)

Most of these instructions build vD element by element, and `pairElem` is already the statement's element of vA followed by vB. Left
to prove are the pixels, which the statement cuts out by masks and the model by bit fields, the selection of bits, and the elements of
a quad word shifted by a whole number of elements. -/
section
namespace Sys2Proof.Machine

/-! ## Pixels (R430, R435, R436): both forms give the same bit at each place -/

/-- A pixel packed: each field moved to the right, over the bits dropped before it (R430). -/
theorem packPixel_eq_masks (w : Word) :
    packPixel w = ((w >>> 9 &&& 0xFC00) ||| (w >>> 6 &&& 0x03E0) ||| (w >>> 3 &&& 0x001F)).setWidth 16 := by
  apply BitVec.eq_of_getLsbD_eq
  intro i hi
  simp only [packPixel, BitVec.getLsbD_append]
  interval_cases i <;> simp

/-- A pixel unpacked: the first bit copied, each field moved to the left into a byte of its own (R435, R436). -/
theorem unpackPixel_eq_masks (h : Half) :
    unpackPixel h = (h.signExtend 32 &&& 0xFF000000) ||| (h.setWidth 32 &&& 0x7C00) <<< 6 ||| (h.setWidth 32 &&& 0x03E0) <<< 3 |||
      (h.setWidth 32 &&& 0x001F) := by
  apply BitVec.eq_of_getLsbD_eq
  intro i hi
  simp only [unpackPixel, BitVec.getLsbD_append]
  interval_cases i <;> simp [BitVec.getElem_signExtend, BitVec.msb_eq_getLsbD_last]

/-! ## The selection of one bit (R452) -/

/-- Masking two bits with a third and its complement selects one of the two. -/
theorem select_eq_ite (a b c : BitVec 1) : (a &&& ~~~c ||| b &&& c) = if c = 1 then b else a := by
  revert a b c
  decide

/-! ## Shifts by a whole number of elements (R453 to R457) -/

/-- A bit of an element is a bit of the quad word. -/
theorem getLsbD_elem {n k i : Nat} (hi : i < n) (v : Quad) : (elem n k v).getLsbD i = v.getLsbD (128 - (n * k + n) + i) := by
  rw [elem, BitVec.getLsbD_extractLsb', decide_eq_true hi, Bool.true_and, Nat.mul_succ]

/-- An element with a number below 128 / n ends within the quad word. -/
theorem elem_end_le {n k : Nat} (hk : k < 128 / n) : n * k + n ≤ 128 :=
  (Nat.mul_le_mul_left n hk).trans (Nat.mul_div_le 128 n)

/-- An element with any other number begins past the end of the quad word. -/
theorem le_elem_start {n k : Nat} (hn : n ∣ 128) (hk : ¬ k < 128 / n) : 128 ≤ n * k :=
  (Nat.mul_div_cancel' hn).ge.trans (Nat.mul_le_mul_left n (Nat.le_of_not_lt hk))

/-- Shifted left by `c` elements, element `k` is element `k + c`, or zeros that came in. -/
theorem elem_shiftLeft {n k : Nat} (hn : n ∣ 128) (hk : k < 128 / n) (c : Nat) (v : Quad) :
    elem n k (v <<< (n * c)) = if k + c < 128 / n then elem n (k + c) v else 0 := by
  apply BitVec.eq_of_getLsbD_eq
  intro i hi
  have hend := elem_end_le hk
  have hadd : n * (k + c) = n * k + n * c := Nat.mul_add n k c
  rw [getLsbD_elem hi, BitVec.getLsbD_shiftLeft, decide_eq_true (by omega : 128 - (n * k + n) + i < 128), Bool.true_and]
  split
  · next h =>
    have hend' := elem_end_le h
    rw [getLsbD_elem hi, decide_eq_false (by omega), Bool.not_false, Bool.true_and]
    congr 1
    omega
  · next h =>
    have hpast := le_elem_start hn h
    rw [decide_eq_true (by omega), Bool.not_true, Bool.false_and]
    exact BitVec.getLsbD_zero.symm

/-- Shifted right by `c` elements, element `k` is element `k - c`, or zeros that came in. -/
theorem elem_ushiftRight {n k : Nat} (hk : k < 128 / n) (c : Nat) (v : Quad) :
    elem n k (v >>> (n * c)) = if c ≤ k then elem n (k - c) v else 0 := by
  apply BitVec.eq_of_getLsbD_eq
  intro i hi
  have hend := elem_end_le hk
  rw [getLsbD_elem hi, BitVec.getLsbD_ushiftRight]
  split
  · next h =>
    have hsub : n * (k - c) = n * k - n * c := Nat.mul_sub n k c
    have hle : n * c ≤ n * k := Nat.mul_le_mul_left n h
    rw [getLsbD_elem hi]
    congr 1
    omega
  · next h =>
    have hpast : n * k + n ≤ n * c := Nat.mul_le_mul_left n (Nat.lt_of_not_le h)
    rw [BitVec.getLsbD_of_ge _ _ (by omega)]
    exact BitVec.getLsbD_zero.symm

/-- The counts agree when the low-order three bits of every byte are the count (R454, R455). -/
theorem shiftsAgree_iff (b : Quad) : shiftsAgree b = true ↔ ∀ j, j < 16 → (elem 8 j b).toNat % 8 = bitCount b :=
  (allBelow_iff _ _).trans (forall₂_congr fun _ _ => beq_iff_eq)

/-! ## Where the counts do not agree (R454, R455) -/

/-- Writing vD with a value that takes a draw changes nothing else. -/
theorem State.writeV_drawn_advance_wroteOnly (s : State) (vD : VReg) (q : Quad) : WroteOnly vD s (s.writeV vD q).drawn.advance :=
  s.writeV_advance_wroteOnly vD q

/-- A meaning that writes vD, in one of two ways, completes and changes nothing else. -/
theorem exists_next_of_ite {i : Instr} {s : State} {vD : VReg} {p : Prop} [Decidable p] {q u : Quad} (hv : s.vec = true)
    (he : exec i s = vectorStep s (if p then s.writeV vD q else (s.writeV vD u).drawn)) :
    ∃ t, exec i s = .next t ∧ WroteOnly vD s t := by
  refine ⟨_, he.trans (vectorStep_vec hv _), ?_⟩
  split
  · exact s.writeV_advance_wroteOnly vD q
  · exact s.writeV_drawn_advance_wroteOnly vD u

/-! ## The statements -/

/-- Settles O34: `pairElem` is the statement's element of vA followed by vB; a truncation keeps the low-order bits. -/
theorem packs : Obligations.Packs := by
  unfold Obligations.Packs
  intro s vD vA vB hv A B p16 p32
  have htrunc {m : Nat} (n : Nat) (x : BitVec m) : x.extractLsb' 0 n = x.setWidth n :=
    BitVec.eq_of_toNat_eq (by simp)
  refine ⟨?vpkuhum, ?vpkuwum, ?vpkuhus, ?vpkuwus, ?vpkshus, ?vpkswus, ?vpkshss, ?vpkswss, ?vpkpx⟩
  case vpkuhum | vpkuwum => exact .of_elements hv rfl fun _ => htrunc _ _
  case vpkuhus | vpkuwus | vpkshus | vpkswus => exact .of_elements hv rfl fun _ _ => rfl
  case vpkshss | vpkswss => exact .of_elements hv rfl fun _ _ => rfl
  case vpkpx => exact .of_elements hv rfl fun _ => packPixel_eq_masks _

/-- Settles O35: the elements are those of the statement, the pixels in the form of `unpackPixel_eq_masks`. -/
theorem unpacks : Obligations.Unpacks := by
  unfold Obligations.Unpacks
  intro s vD vB hv B
  refine ⟨?vupkhsb, ?vupkhsh, ?vupklsb, ?vupklsh, ?vupkhpx, ?vupklpx⟩
  case vupkhsb | vupkhsh | vupklsb | vupklsh => exact .of_elements hv rfl fun _ => rfl
  case vupkhpx | vupklpx => exact .of_elements hv rfl fun _ => unpackPixel_eq_masks _

/-- Settles O36: each meaning builds vD from the statement's own elements. -/
theorem merges : Obligations.Merges := by
  unfold Obligations.Merges
  intro s vD vA vB hv A B
  refine ⟨?vmrghb, ?vmrglb, ?vmrghh, ?vmrglh, ?vmrghw, ?vmrglw⟩
  case vmrghb | vmrglb | vmrghh | vmrglh | vmrghw | vmrglw => exact .of_elements hv rfl fun _ => rfl

/-- Settles O37: each meaning copies the statement's own element, and the sign extension of SIMM has its signed value. -/
theorem splats : Obligations.Splats := by
  unfold Obligations.Splats
  intro s vD vB uimm simm hv B
  refine ⟨?vspltb, ?vsplth, ?vspltw, ?vspltisb, ?vspltish, ?vspltisw⟩
  case vspltb | vsplth | vspltw => exact .of_elements hv rfl fun _ => rfl
  case vspltisb | vspltish | vspltisw => exact .of_elements hv rfl fun _ => (modulo_si _ simm).symm

/-- Settles O38: vsel bit by bit; vperm and vsldoi take the bytes of vA followed by vB. -/
theorem selectAndPermute : Obligations.SelectAndPermute := by
  unfold Obligations.SelectAndPermute
  intro s vD vA vB vC shb hv A B C
  refine ⟨?vsel, ?vperm, ?vsldoi⟩
  case vsel => exact (Gives.of_quad 1 hv rfl).congr fun k hk => by rw [elem_or, elem_and, elem_and, elem_not hk, select_eq_ite]
  case vperm => exact .of_elements hv rfl fun _ => rfl
  case vsldoi => exact .of_elements hv rfl fun _ => rfl

/-- Settles O39: a shift by bytes or by bits is one by elements of width 8 or 1; the bit shifts write the shifted quad word where the
counts agree, and vD alone in any case. -/
theorem longShifts : Obligations.LongShifts := by
  unfold Obligations.LongShifts
  intro s vD vA vB hv A B n sh
  refine ⟨?vslo, ?vsro, fun hagree => ?agree, ?vslCompletes, ?vsrCompletes⟩
  case vslo => exact (Gives.of_quad 8 hv rfl).congr fun k hk => elem_shiftLeft (by decide) hk n A
  case vsro => exact (Gives.of_quad 8 hv rfl).congr fun k hk => elem_ushiftRight hk n A
  case agree =>
    have hcount : shiftsAgree B = true := (shiftsAgree_iff B).2 hagree
    constructor
    · have hexec : exec (.vsl vD vA vB) s = vectorStep s (s.writeV vD (A <<< sh)) := congrArg (vectorStep s) (if_pos hcount)
      refine (Gives.of_quad 1 hv hexec).congr fun k hk => ?_
      simpa only [Nat.one_mul] using elem_shiftLeft (by decide) hk sh A
    · have hexec : exec (.vsr vD vA vB) s = vectorStep s (s.writeV vD (A >>> sh)) := congrArg (vectorStep s) (if_pos hcount)
      refine (Gives.of_quad 1 hv hexec).congr fun k hk => ?_
      simpa only [Nat.one_mul] using elem_ushiftRight hk sh A
  case vslCompletes => exact exists_next_of_ite hv rfl
  case vsrCompletes => exact exists_next_of_ite hv rfl

end Sys2Proof.Machine
end

/-! # The moves to and from VSCR and VRSAVE (45_vscr_control.md R480 to R484)

A bit that mfvscr reads is undefined only where it is reserved and holds 1. `State.wordBit_vscrImage` says so once, and what the
statement asks of NJ, SAT and the bits that hold 0 is read off from it. -/
section
namespace Sys2Proof.Machine

/-! ## A word in the low-order place of a quad word (R480) -/

/-- The last word element is the word that was widened. -/
theorem elem_setWidth_last (w : Word) : elem 32 3 (w.setWidth 128) = w := by
  apply BitVec.eq_of_getLsbD_eq
  intro i hi
  rw [getLsbD_elem hi, BitVec.getLsbD_setWidth, decide_eq_true (by omega), Bool.true_and]
  congr 1
  omega

/-- The word elements before it are zero. -/
theorem elem_setWidth_of_lt (w : Word) {k : Nat} (hk : k < 3) : elem 32 k (w.setWidth 128) = 0 := by
  apply BitVec.eq_of_getLsbD_eq
  intro i hi
  rw [getLsbD_elem hi, BitVec.getLsbD_setWidth, BitVec.getLsbD_of_ge w _ (by omega), Bool.and_false]
  exact BitVec.getLsbD_zero.symm

/-! ## What mfvscr reads (R480, 10_state.md R42) -/

/-- A bit of VSCR reads as it is, except that a reserved one that holds 1 reads as an undefined bit. -/
theorem State.wordBit_vscrImage (s : State) {b : Nat} (hb : b < 32) :
    wordBit s.vscrImage b = (wordBit s.vscrValue b && (!wordBit vscrReserved b || wordBit s.undefWord b)) := by
  have hlt : 31 - b < 32 := by omega
  simp only [wordBit, State.vscrImage, BitVec.getLsbD_or, BitVec.getLsbD_and, BitVec.getLsbD_not, hlt, decide_true, Bool.true_and]
  cases s.vscrValue.getLsbD (31 - b) <;> cases vscrReserved.getLsbD (31 - b) <;> rfl

/-- A bit that is not reserved reads as it is. -/
theorem State.wordBit_vscrImage_of_not_reserved (s : State) {b : Nat} (hb : b < 32) (hr : wordBit vscrReserved b = false) :
    wordBit s.vscrImage b = wordBit s.vscrValue b := by
  rw [s.wordBit_vscrImage hb, hr, Bool.not_false, Bool.true_or, Bool.and_true]

/-- A bit that holds 0 reads as 0, reserved or not. -/
theorem State.wordBit_vscrImage_of_zero (s : State) {b : Nat} (hb : b < 32) (h0 : wordBit s.vscrValue b = false) :
    wordBit s.vscrImage b = false := by
  rw [s.wordBit_vscrImage hb, h0, Bool.false_and]

/-! ## How a written VSCR is read (10_state.md R45, R48) -/

/-- NJ is the stored bit, or 1 where Java mode is not implemented. -/
theorem State.nj_eq (s : State) : s.nj = (wordBit s.vscr 15 || !Config.javaImplemented) := by
  rw [State.nj, s.wordBit_vscrValue 15 (by decide), beq_self_eq_true, Bool.and_true]

/-! ## The statements -/

/-- Settles O56: mfvscr writes the image of VSCR, widened, and mtvscr stores the low-order word, read back by `nj_eq` and `sat_eq`. -/
theorem vscrMoves : Obligations.VscrMoves := by
  unfold Obligations.VscrMoves
  intro s v hv
  constructor
  · have hread : ((s.writeV v (s.vscrImage.setWidth 128)).drawn.advance).readV v = s.vscrImage.setWidth 128 :=
      s.readV_writeV_self v _
    refine ⟨_, vectorStep_vec hv _, ?high, ?nj, ?sat, ?zeros, s.writeV_drawn_advance_wroteOnly v _⟩
    case high => exact fun k hk => by rw [hread, elem_setWidth_of_lt _ hk]
    case nj => rw [hread, elem_setWidth_last, s.wordBit_vscrImage_of_not_reserved (by decide) (by decide), State.nj]
    case sat => rw [hread, elem_setWidth_last, s.wordBit_vscrImage_of_not_reserved (by decide) (by decide), State.sat]
    case zeros => exact fun b hb h0 => by rw [hread, elem_setWidth_last, s.wordBit_vscrImage_of_zero hb h0]
  · exact ⟨_, vectorStep_vec hv _, rfl, State.sat_eq _, State.nj_eq _, ⟨rfl, rfl, rfl, rfl⟩, ⟨rfl, rfl, rfl, rfl, rfl⟩, rfl, rfl,
      rfl, fun _ => rfl⟩

/-- Settles O15: each move answers its next state in every mode, mfspr having written rD alone and mtspr VRSAVE alone. -/
theorem vrsaveMoves : Obligations.VrsaveMoves := by
  unfold Obligations.VrsaveMoves
  intro s r
  constructor
  · exact ⟨(s.writeG r s.vrsave).advance, rfl, s.readG_writeG_self r _, fun _ hq => s.readG_writeG_ne _ hq, ⟨rfl, rfl, rfl, rfl⟩,
      rfl, rfl, rfl, rfl, rfl, rfl, rfl, rfl, fun _ => rfl⟩
  · exact ⟨({ s with vrsave := s.readG r } : State).advance, rfl, rfl, rfl, ⟨rfl, rfl, rfl, rfl⟩, rfl, rfl, rfl, rfl, rfl, rfl, rfl,
      fun _ => rfl⟩

end Sys2Proof.Machine
end

/-! # Data streams (46_data_stream.md R490 to R507)

A stream instruction writes slots and nothing else, in any state. An exception entry leaves the slots alone and clears MSR[DR], which
suspends every stream; rfi brings MSR[DR] and MSR[PR] back, and with them what was enabled (R500, R501). -/
section
namespace Sys2Proof.Machine

/-! ## The stream that a descriptor describes (R491, R502) -/

/-- A field of a word, by shifting and masking or by dividing. -/
theorem toNat_ushiftRight_and_mask (w : Word) {i j : Nat} (hj : j ≤ 32) :
    (w >>> i &&& BitVec.ofNat 32 (2 ^ j - 1)).toNat = w.toNat / 2 ^ i % 2 ^ j := by
  have hle : 2 ^ j ≤ 2 ^ 32 := Nat.pow_le_pow_right (by decide) hj
  rw [BitVec.toNat_and, BitVec.toNat_ushiftRight, BitVec.toNat_ofNat, Nat.mod_eq_of_lt (a := 2 ^ j - 1) (by omega),
    Nat.and_two_pow_sub_one_eq_mod, Nat.shiftRight_eq_div_pow]

/-- The low-order halfword of a word as a signed integer. -/
theorem toInt_lowHalfword (w : Word) : (w.extractLsb' 0 16).toInt =
    if 0x8000 ≤ (w &&& 0xFFFF).toNat then ((w &&& 0xFFFF).toNat : Int) - 0x10000 else (w &&& 0xFFFF).toNat := by
  have hlow : (w &&& 0xFFFF).toNat = w.toNat % 65536 := by simpa using toNat_ushiftRight_and_mask w (i := 0) (j := 16) (by decide)
  have hext : (w.extractLsb' 0 16).toNat = w.toNat % 65536 := by simp
  rw [BitVec.toInt_eq_toNat_cond, hext, hlow]
  split <;> split <;> omega

/-- The fields of a stream in the masks of the descriptor's layout, a zero field standing for 32, 256 and +32768 (R491). -/
theorem makeStream_eq_masks (kind : StreamKind) (tr pr : Bool) (ea d : Word) :
    makeStream kind tr pr ea d =
      { ea := ea
        size := if (d >>> 24 &&& 0x1F).toNat = 0 then 32 else (d >>> 24 &&& 0x1F).toNat
        count := if (d >>> 16 &&& 0xFF).toNat = 0 then 256 else (d >>> 16 &&& 0xFF).toNat
        stride := if (d &&& 0xFFFF).toNat = 0 then 32768
          else if 0x8000 ≤ (d &&& 0xFFFF).toNat then ((d &&& 0xFFFF).toNat : Int) - 0x10000 else (d &&& 0xFFFF).toNat
        transient := tr, kind := kind, pr := pr, progress := 0 } := by
  have hsize : (d >>> 24 &&& 0x1F).toNat = d.toNat / 16777216 % 32 := toNat_ushiftRight_and_mask d (j := 5) (by decide)
  have hcount : (d >>> 16 &&& 0xFF).toNat = d.toNat / 65536 % 256 := toNat_ushiftRight_and_mask d (j := 8) (by decide)
  have hlt : (d &&& 0xFFFF).toNat < 0x10000 := by
    rw [BitVec.toNat_and]
    exact Nat.and_lt_two_pow _ (n := 16) (by decide)
  have hzero : (d.extractLsb' 0 16).toInt = 0 ↔ (d &&& 0xFFFF).toNat = 0 := by
    rw [toInt_lowHalfword]
    split <;> omega
  simp only [makeStream, hsize, hcount, hzero]
  rw [toInt_lowHalfword]

/-! ## What a stream instruction leaves unchanged (R492) -/

/-- The instruction completes with a state that meets `P`, and writes nothing but, perhaps, the slots. -/
def WritesSlots (i : Instr) (s : State) (P : State → Prop) : Prop :=
  ∃ t, exec i s = .next t ∧ Completed s t ∧ RegistersKept s t ∧ t.vr = s.vr ∧ t.cr = s.cr ∧ t.vscr = s.vscr ∧ MemoryKept s t ∧ P t

/-- An instruction whose own effect is a new value of the slots writes nothing else. -/
theorem WritesSlots.of_streams {i : Instr} {s : State} {v : Vector (Option Stream) 4} {P : State → Prop}
    (h : exec i s = .next ({ s with streams := v } : State).advance) (hP : P ({ s with streams := v } : State).advance) :
    WritesSlots i s P :=
  ⟨_, h, ⟨rfl, rfl, rfl, rfl⟩, ⟨rfl, rfl, rfl, rfl, rfl⟩, rfl, rfl, rfl, fun _ => rfl, hP⟩

/-- A touch is a new value of the slots. -/
theorem State.touch_eq (s : State) (kind : StreamKind) (tr : Bool) (k : StreamId) (rA rB : GReg) :
    s.touch kind tr k rA rB = { s with streams := (s.touch kind tr k rA rB).streams } := by
  unfold State.touch
  split <;> rfl

/-- A touch starts its stream in its slot alone, and with rA field 0 none (R492, R493, D20). -/
theorem WritesSlots.of_touch {i : Instr} {s : State} {kind : StreamKind} {tr : Bool} {k : StreamId} {rA rB : GReg} {st : Stream}
    (h : exec i s = .next (s.touch kind tr k rA rB).advance) (hst : makeStream kind tr s.pr (s.readG rA) (s.readG rB) = st) :
    WritesSlots i s fun t => (rA = 0 → t.streams = s.streams) ∧
      (rA ≠ 0 → t.streams.get k = some st ∧ ∀ j, j ≠ k → t.streams.get j = s.streams.get j) := by
  rw [State.touch_eq] at h
  refine .of_streams h ?_
  simp only [State.advance_streams, State.touch_streams, hst]
  constructor
  · exact fun h0 => if_pos h0
  · intro h0
    rw [if_neg h0]
    exact ⟨get_set_self _ _ _, fun _ hj => get_set_ne _ _ hj⟩

/-! ## Suspension and resumption (R500, R501) -/

theorem wordBit_and (v w : Word) (b : Nat) : wordBit (v &&& w) b = (wordBit v b && wordBit w b) := BitVec.getLsbD_and

theorem wordBit_or (v w : Word) (b : Nat) : wordBit (v ||| w) b = (wordBit v b || wordBit w b) := BitVec.getLsbD_or

theorem wordBit_not (v : Word) {b : Nat} (hb : b < 32) : wordBit (~~~v) b = !wordBit v b := by
  have hlt : 31 - b < 32 := by omega
  simp [wordBit, hlt]

/-- An entry clears the bits of its mask; LE, bit 31, then takes the value of ILE (60_exceptions.md R514). -/
theorem wordBit_entryMSR_of_cleared (m : Word) {b : Nat} (hb : b < 31) (hc : wordBit clearedMask b = true) :
    wordBit (entryMSR m) b = false := by
  have hone : wordBit 1 b = false := by
    have hne : 31 - b ≠ 0 := by omega
    simp [wordBit, hne]
  rw [entryMSR, wordBit_or, wordBit_and, wordBit_and, wordBit_not _ (by omega), hc, hone]
  simp

/-- A saved MSR bit comes back from SRR1, the cause bits of the entry being none of these (60_exceptions.md R515, R532). -/
theorem State.wordBit_returnFromException_msr {s t : State} {cause : Word} (hsrr1 : t.srr1 = (s.msr &&& savedMask) ||| cause)
    (hcause : cause &&& savedMask = 0) {b : Nat} (hb : b < 32) (hs : wordBit savedMask b = true) :
    wordBit t.returnFromException.msr b = wordBit s.msr b := by
  have hc : wordBit cause b = false := by
    have hand : wordBit (cause &&& savedMask) b = false := by rw [hcause]; exact BitVec.getLsbD_zero
    rwa [wordBit_and, hs, Bool.and_true] at hand
  simp [hsrr1, wordBit_or, wordBit_and, wordBit_not _ hb, hs, hc]

/-- Without data address translation no stream is enabled (R500). -/
theorem State.streamEnabled_of_dr_false {s : State} (h : s.dr = false) (k : StreamId) : s.streamEnabled k = false := by
  unfold State.streamEnabled
  split
  · rw [h, Bool.false_and]
  · rfl

/-- Which streams are enabled depends on the slots, MSR[DR] and MSR[PR] alone (R500). -/
theorem State.streamEnabled_congr {s t : State} (hstr : t.streams = s.streams) (hdr : t.dr = s.dr) (hpr : t.pr = s.pr)
    (k : StreamId) : t.streamEnabled k = s.streamEnabled k := by
  unfold State.streamEnabled
  rw [hstr, hdr, hpr]

/-- In supervisor mode rfi returns (60_exceptions.md R532). -/
theorem execBase_rfi_of_supervisor {s : State} (h : s.pr = false) : execBase .rfi s = .next s.returnFromException := by
  simp [execBase, execRfi, h]

/-- In user mode rfi takes the program exception (60_exceptions.md R532, R524). -/
theorem execBase_rfi_of_user {s : State} (h : s.pr = true) : execBase .rfi s = .next s.takePrivileged := by
  simp [execBase, execRfi, h]

/-- An exception entry, whatever its cause, suspends all streams; rfi back enables those that were enabled (R500, R501). -/
theorem State.entry_suspends_streams {s t : State} {cause : Word} (hstr : t.streams = s.streams) (hmsr : t.msr = entryMSR s.msr)
    (hsrr1 : t.srr1 = (s.msr &&& savedMask) ||| cause) (hcause : cause &&& savedMask = 0) :
    t.streams = s.streams ∧ (∀ k, t.streamEnabled k = false) ∧
      ∃ u, execBase .rfi t = .next u ∧ u.streams = s.streams ∧ ∀ k, u.streamEnabled k = s.streamEnabled k := by
  have hdr : t.dr = false := by rw [State.dr, hmsr, wordBit_entryMSR_of_cleared _ (by decide) (by decide)]
  have hpr : t.pr = false := by rw [State.pr, hmsr, wordBit_entryMSR_of_cleared _ (by decide) (by decide)]
  exact ⟨hstr, State.streamEnabled_of_dr_false hdr, t.returnFromException, execBase_rfi_of_supervisor hpr, hstr,
    State.streamEnabled_congr hstr (State.wordBit_returnFromException_msr hsrr1 hcause (by decide) (by decide))
      (State.wordBit_returnFromException_msr hsrr1 hcause (by decide) (by decide))⟩

/-- A DSI leaves the slots as they are, as every entry does (60_exceptions.md R518). -/
@[simp] theorem State.takeDSI_streams (s : State) (ea : Word) : (s.takeDSI ea).streams = s.streams := by
  simp [State.takeDSI]

/-- With AltiVec disabled an instruction that is no stream instruction takes the AltiVec unavailable exception (60_exceptions.md
R512). -/
theorem exec_unavailable {i : Instr} {s : State} (hi : isStream i = false) (hv : s.vec = false) :
    exec i s = .next s.takeUnavailable := by
  obtain ⟨t, -, ⟨hstream, -⟩ | ⟨-, he⟩⟩ := exec_effect i s
  · simp [hi] at hstream
  · exact he.trans (vectorStep_unavailable hv t)

/-! ## The statements -/

/-- Settles O57: each of the four is a touch, whose stream has the fields of `makeStream_eq_masks`. -/
theorem streamTouches : Obligations.StreamTouches := by
  unfold Obligations.StreamTouches
  intro s k rA rB d size count s16 stream p hp
  have hstream (kind : StreamKind) (tr : Bool) : makeStream kind tr s.pr (s.readG rA) (s.readG rB) = stream kind tr :=
    makeStream_eq_masks ..
  simp only [List.mem_cons, List.not_mem_nil, or_false] at hp
  obtain rfl | rfl | rfl | rfl := hp
  · exact WritesSlots.of_touch rfl (hstream ..)
  · exact WritesSlots.of_touch rfl (hstream ..)
  · exact WritesSlots.of_touch rfl (hstream ..)
  · exact WritesSlots.of_touch rfl (hstream ..)

/-- Settles O58: dss sets its slot to none, and dssall replaces the four slots by empty ones. -/
theorem streamStops : Obligations.StreamStops := by
  unfold Obligations.StreamStops
  intro s k
  constructor
  · exact WritesSlots.of_streams rfl ⟨get_set_self _ _ _, fun _ hj => get_set_ne _ _ hj⟩
  · exact WritesSlots.of_streams rfl fun j => Vector.getElem_replicate j.isLt

/-- Settles O59: the four entries differ in their vector, in their cause bits and in DAR and DSISR only, so that
`State.entry_suspends_streams` covers each. -/
theorem streamsAreSuspendedByAnException : Obligations.StreamsAreSuspendedByAnException := by
  unfold Obligations.StreamsAreSuspendedByAnException
  intro s
  refine ⟨fun i => exec_unavailable, rfl, execBase_rfi_of_user, fun ea t ht => ?_⟩
  simp only [List.mem_cons, List.not_mem_nil, or_false] at ht
  obtain rfl | rfl | rfl | rfl := ht
  case inl => exact State.entry_suspends_streams (cause := 0) (State.takeException_streams ..) rfl rfl (by decide)
  case inr.inl => exact State.entry_suspends_streams (cause := causeIllegal) (State.takeException_streams ..) rfl rfl (by decide)
  case inr.inr.inl => exact State.entry_suspends_streams (cause := causePrivileged) (State.takeException_streams ..) rfl rfl (by decide)
  case inr.inr.inr => exact State.entry_suspends_streams (cause := 0) (State.takeDSI_streams ..) rfl rfl (by decide)

/-- Settles O60: the engine keeps every register and memory, and a stream that it has not ended is one of
`State.slotAfterPrefetch_cases`. -/
theorem prefetchEngine : Obligations.PrefetchEngine := by
  unfold Obligations.PrefetchEngine
  intro s t
  refine ⟨s.prefetch_pc, s.prefetch_msr, s.prefetch_srr0, s.prefetch_srr1,
    ⟨s.prefetch_gpr, s.prefetch_vrsave, s.prefetch_dar, s.prefetch_dsisr, s.prefetch_base⟩, s.prefetch_vr, s.prefetch_cr,
    s.prefetch_vscr, s.prefetch_mem, fun k => ?_⟩
  rw [s.prefetch_get k]
  cases hk : s.slotAfterPrefetch k with
  | none => exact .inl rfl
  | some st' =>
    obtain ⟨st, hst, ⟨he, u, hu, rfl⟩ | ⟨he, rfl⟩⟩ := State.slotAfterPrefetch_cases hk
    · exact .inr ⟨st, _, hst, rfl, Nat.le_add_right _ u, by simp [he], fun _ => hu⟩
    · exact .inr ⟨st', _, hst, rfl, Nat.le_refl _, fun _ => rfl, by simp [he]⟩

end Sys2Proof.Machine
end

/-! # The AltiVec unavailable exception and rfi (60_exceptions.md R512 to R517, R532)

The bits of MSR after an entry and after rfi are read off the two masks, `clearedMask` and `savedMask`, which `wordBit_savedMask` and
`wordBit_clearedMask` tie to the lists of the spec. POW (bit 13) is the one bit that an entry clears and does not save. -/
section
namespace Sys2Proof.Machine

/-! ## The masks as lists of bits -/

/-- The MSR bits that an entry saves and rfi restores (R515, R532). -/
theorem wordBit_savedMask : ∀ b, b < 32 → wordBit savedMask b = (b == 0 || (5 ≤ b && b ≤ 9) || 16 ≤ b) := by decide

/-- The MSR bits that an entry clears, and LE, which it sets anew (R514). -/
theorem wordBit_clearedMask :
    ∀ b, b < 32 → wordBit clearedMask b = (b == 31 || decide (b ∈ [6, 13, 16, 17, 18, 20, 21, 22, 23, 26, 27, 30])) := by decide

/-- Two words with the same bits in the spec's numbering are equal. -/
theorem eq_of_wordBit_eq {v w : Word} (h : ∀ b, b < 32 → wordBit v b = wordBit w b) : v = w := by
  refine BitVec.eq_of_getLsbD_eq fun i hi => ?_
  have hbit := h (31 - i) (by omega)
  rwa [wordBit, wordBit, Nat.sub_sub_self (by omega)] at hbit

/-! ## MSR after an entry (R514) -/

/-- LE takes the value of ILE. -/
theorem wordBit_entryMSR_le (m : Word) : wordBit (entryMSR m) 31 = wordBit m 15 := by
  have hle : wordBit clearedMask 31 = true := by decide
  rw [entryMSR, wordBit_or, wordBit_and, wordBit_and, wordBit_not _ (by decide), hle]
  simp [wordBit]

/-- A bit outside the mask stays as it is. -/
theorem wordBit_entryMSR_of_kept (m : Word) {b : Nat} (hb : b < 32) (hc : wordBit clearedMask b = false) :
    wordBit (entryMSR m) b = wordBit m b := by
  have hne : b ≠ 31 := by
    rintro rfl
    exact absurd hc (by decide)
  have hone : wordBit 1 b = false := by
    have hpos : 31 - b ≠ 0 := by omega
    simp [wordBit, hpos]
  rw [entryMSR, wordBit_or, wordBit_and, wordBit_and, wordBit_not _ hb, hc, hone]
  simp

/-- MSR after an entry, bit by bit: LE, the bits of the mask, and the others. -/
theorem enteredMSR_of_msr_eq {s t : State} (h : t.msr = entryMSR s.msr) : EnteredMSR s t := by
  intro b hb
  have hmask := wordBit_clearedMask b hb
  rw [h]
  split
  next h31 =>
    subst h31
    exact wordBit_entryMSR_le s.msr
  next h31 =>
    split
    next hmem => exact wordBit_entryMSR_of_cleared _ (by omega) (by simp [hmask, hmem])
    next hmem => exact wordBit_entryMSR_of_kept _ hb (by simp [hmask, hmem, h31])

/-! ## MSR after rfi (R532) -/

/-- A saved bit comes from SRR1; every other bit stays. -/
theorem State.wordBit_returnFromException_msr_eq (s : State) {b : Nat} (hb : b < 32) :
    wordBit s.returnFromException.msr b = if wordBit savedMask b then wordBit s.srr1 b else wordBit s.msr b := by
  rw [State.returnFromException_msr, wordBit_or, wordBit_and, wordBit_and, wordBit_not _ hb]
  cases wordBit savedMask b <;> simp

/-- Entry and return bring back every MSR bit that was saved or not cleared, which is all but POW. -/
theorem State.takeUnavailable_returnFromException_msr (s : State) :
    s.takeUnavailable.returnFromException.msr = s.msr &&& 0xFFFBFFFF := by
  have hmask : (0xFFFBFFFF : Word) = savedMask ||| ~~~clearedMask := by decide
  refine eq_of_wordBit_eq fun b hb => ?_
  rw [State.wordBit_returnFromException_msr_eq _ hb, hmask, wordBit_and, wordBit_or, wordBit_not _ hb,
    State.takeUnavailable_srr1, State.takeUnavailable_msr]
  cases hs : wordBit savedMask b with
  | true => simp [wordBit_and, hs]
  | false =>
    have hlt : b < 31 := by
      have hle : b ≠ 31 := by
        rintro rfl
        exact absurd hs (by decide)
      omega
    cases hc : wordBit clearedMask b with
    | true => simp [wordBit_entryMSR_of_cleared _ hlt hc]
    | false => simp [wordBit_entryMSR_of_kept _ hb hc]

/-! ## What entries and rfi leave unchanged (R517) -/

/-- Nothing has changed but, perhaps, pc, MSR, SRR0 and SRR1. -/
def ChangesControlOnly (s t : State) : Prop :=
  t.vr = s.vr ∧ t.vscr = s.vscr ∧ t.cr = s.cr ∧ t.streams = s.streams ∧ RegistersKept s t ∧ MemoryKept s t

theorem State.takeException_changesControlOnly (s : State) (v c : Word) : ChangesControlOnly s (s.takeException v c) := by
  obtain ⟨hregs, hvr, hcr, hvscr, hstr, hmem⟩ := s.takeException_frame v c
  exact ⟨hvr, hvscr, hcr, hstr, hregs, State.byte_congr hmem⟩

theorem State.returnFromException_changesControlOnly (s : State) : ChangesControlOnly s s.returnFromException :=
  ⟨rfl, rfl, rfl, rfl, ⟨rfl, rfl, rfl, rfl, rfl⟩, State.byte_congr s.returnFromException_mem⟩

theorem ChangesControlOnly.trans {s t u : State} (hst : ChangesControlOnly s t) (htu : ChangesControlOnly t u) :
    ChangesControlOnly s u := by
  obtain ⟨hvr, hvscr, hcr, hstr, ⟨hgpr, hvrsave, hdar, hdsisr, hbase⟩, hmem⟩ := hst
  obtain ⟨hvr', hvscr', hcr', hstr', ⟨hgpr', hvrsave', hdar', hdsisr', hbase'⟩, hmem'⟩ := htu
  exact ⟨hvr'.trans hvr, hvscr'.trans hvscr, hcr'.trans hcr, hstr'.trans hstr, ⟨hgpr'.trans hgpr, hvrsave'.trans hvrsave,
    hdar'.trans hdar, hdsisr'.trans hdsisr, hbase'.trans hbase⟩, fun a => (hmem' a).trans (hmem a)⟩

/-! ## Where the entry and the return leave control -/

/-- The two addresses of the AltiVec unavailable vector (R513, D11). -/
theorem State.vectorBase_add_vectorUnavailable (s : State) :
    s.vectorBase + vectorUnavailable = if wordBit s.msr 25 then 0xFFF00F20 else 0x00000F20 := by
  unfold State.vectorBase State.ip
  split <;> rfl

/-- Every entry is to supervisor mode (R514), so that the rfi after it returns. -/
theorem State.takeUnavailable_pr (s : State) : s.takeUnavailable.pr = false :=
  wordBit_entryMSR_of_cleared s.msr (b := 17) (by decide) (by decide)

/-! ## The statements -/

/-- Settles O14: rfi is `State.returnFromException` in supervisor mode and the entry `State.takePrivileged` in user mode. -/
theorem returnFromException : Obligations.ReturnFromException := by
  unfold Obligations.ReturnFromException
  intro s
  constructor
  · intro hpr
    refine ⟨s.returnFromException, execBase_rfi_of_supervisor hpr, rfl, fun b hb => ?_, rfl, rfl,
      s.returnFromException_changesControlOnly⟩
    rw [s.wordBit_returnFromException_msr_eq hb, wordBit_savedMask b hb]
  · intro hpr
    exact ⟨s.takePrivileged, execBase_rfi_of_user hpr, rfl, rfl, rfl, enteredMSR_of_msr_eq rfl,
      s.takeException_changesControlOnly ..⟩

/-- Settles O11: the instruction is the entry `State.takeUnavailable`, which adds no cause bit to the saved bits. -/
theorem unavailableSavesTheStatus : Obligations.UnavailableSavesTheStatus := by
  unfold Obligations.UnavailableSavesTheStatus
  intro i s hi hv
  refine ⟨s.takeUnavailable, exec_unavailable hi hv, rfl, fun b hb => ?_⟩
  rw [s.takeUnavailable_srr1, wordBit_and, wordBit_savedMask b hb]

/-- Settles O12: the instruction is the entry `State.takeUnavailable`. -/
theorem unavailableEntry : Obligations.UnavailableEntry := by
  unfold Obligations.UnavailableEntry
  intro i s hi hv
  exact ⟨s.takeUnavailable, exec_unavailable hi hv, enteredMSR_of_msr_eq rfl, s.vectorBase_add_vectorUnavailable,
    s.takeException_changesControlOnly ..⟩

/-- Settles O13: the entry saves pc and MSR, and the rfi after it, in supervisor mode, takes them back. -/
theorem entryThenReturn : Obligations.EntryThenReturn := by
  unfold Obligations.EntryThenReturn
  intro i s t hi hv h
  obtain rfl : s.takeUnavailable = t := Host.Outcome.next.inj ((exec_unavailable hi hv).symm.trans h)
  exact ⟨s.takeUnavailable.returnFromException, execBase_rfi_of_supervisor s.takeUnavailable_pr, rfl,
    s.takeUnavailable_returnFromException_msr,
    (s.takeException_changesControlOnly ..).trans s.takeUnavailable.returnFromException_changesControlOnly⟩

end Sys2Proof.Machine
end

/-! # Steps, runs and reset (70_reset_and_hazards.md R551, R580 to R582)

The statements speak of the four bytes at pc, the model of the word `State.fetchWord`; `State.decode_fetched` says that the decoder
reads the same from both. What a step does with each outcome of the decoder is then `execDecoded`, followed by the prefetch engine. -/
section
namespace Sys2Proof.Machine

/-! ## Fetch (20_memory.md R126) -/

/-- A four-byte read has the byte at the lowest address as its most significant one. -/
theorem State.memRead_four (s : State) (a : Word) :
    s.memRead a 4 = wordOfBytes (s.byte a) (s.byte (a + 1)) (s.byte (a + 2)) (s.byte (a + 3)) := by
  have hload : s.loadNat a 4 = (s.byte a).toNat * 16777216 + (s.byte (a + 1)).toNat * 65536 + (s.byte (a + 2)).toNat * 256 +
      (s.byte (a + 3)).toNat := by
    simp only [State.loadNat, BitVec.ofNat_eq_ofNat, BitVec.add_zero]
    omega
  rw [State.memRead, hload, wordOfBytes]

/-- Decoding the four bytes where the fetch reads is decoding the fetched word. -/
theorem State.decode_fetched (s : State) :
    decode [s.byte s.fetchAddr, s.byte (s.fetchAddr + 1), s.byte (s.fetchAddr + 2), s.byte (s.fetchAddr + 3)] =
      decodeWord s.fetchWord :=
  congrArg decodeWord (s.memRead_four s.fetchAddr).symm

/-! ## A step, by what the fetched word decodes to (R581, R582) -/

theorem step_instr {s t : State} {i : Instr} (hd : decodeWord s.fetchWord = .instr i) (h : exec i s = .next t) :
    step s = .next t.prefetch :=
  step_of_execDecoded (hd ▸ h)

theorem step_base {s t : State} {b : BaseInstr} (hd : decodeWord s.fetchWord = .base b) (h : execBase b s = .next t) :
    step s = .next t.prefetch :=
  step_of_execDecoded (hd ▸ h)

theorem step_illegal {s : State} (hd : decodeWord s.fetchWord = .illegal) : step s = .next s.takeIllegal.prefetch :=
  step_of_execDecoded (hd ▸ rfl)

theorem step_rejected {s : State} {r : Rejection} (hd : decodeWord s.fetchWord = .rejected r) :
    step s = .refused (refusalOf r) := by
  rw [step, hd]
  rfl

/-- A base instruction is never refused: rfi in user mode takes the program exception (60_exceptions.md R532). -/
theorem execBase_exists_next (b : BaseInstr) (s : State) : ∃ t, execBase b s = .next t := by
  cases b with
  | mfsprVrsave rD => exact ⟨_, rfl⟩
  | mtsprVrsave rS => exact ⟨_, rfl⟩
  | rfi =>
    cases hpr : s.pr with
    | false => exact ⟨_, execBase_rfi_of_supervisor hpr⟩
    | true => exact ⟨_, execBase_rfi_of_user hpr⟩

/-! ## The end of a run (R580) -/

/-- A run that its bound has ended is not at P_STOP_PC: the run of no steps that continues it would end normally. -/
theorem State.run_bound_pc {s t : State} {stop : Word} {m : Nat} (h : s.run stop m = .bound t) : t.pc ≠ stop := by
  rintro rfl
  have hadd := State.run_add h 0
  rw [Nat.add_zero, h, State.run_at_stop] at hadd
  cases hadd

/-! ## Reset (R551) -/

/-- After reset every stream slot is empty (46_data_stream.md R490). -/
theorem State.reset_get_streams (k : StreamId) : State.reset.streams.get k = none := by
  revert k
  decide

/-! ## The statements -/

/-- Settles O4: the word at pc is the instruction's, so the step is `exec` and the prefetch engine. -/
theorem stepRunsTheDecodedInstruction : Obligations.StepRunsTheDecodedInstruction := by
  unfold Obligations.StepRunsTheDecodedInstruction
  intro s stop a d
  have hd : d = decodeWord s.fetchWord := s.decode_fetched
  refine ⟨fun i t hi ht => ?_, fun n hp => hp ▸ s.run_at_stop n, State.run_zero, fun n t => State.run_normal_pc,
    fun m n t h => ⟨State.run_bound_pc h, State.run_add h n⟩⟩
  have hstep : step s = .next t.prefetch := step_instr (hd.symm.trans hi) ht
  exact ⟨hstep, fun hp n => State.run_next hp hstep n⟩

/-- Settles O5: one clause for each outcome of the decoder; the illegal word is the entry `State.takeIllegal`. -/
theorem stepOfOtherWords : Obligations.StepOfOtherWords := by
  unfold Obligations.StepOfOtherWords
  intro s a d
  have hd : d = decodeWord s.fetchWord := s.decode_fetched
  have hrejected {r : Rejection} (hr : d = .rejected r) : step s = .refused (refusalOf r) ∧
      ∀ stop n, s.pc ≠ stop → s.run stop (n + 1) = .refused (refusalOf r) s :=
    have hstep := step_rejected (hd.symm.trans hr)
    ⟨hstep, fun _ n hp => State.run_refused hp hstep n⟩
  refine ⟨fun b hb => ?_, fun hi => ?_, hrejected, hrejected⟩
  · obtain ⟨t, ht⟩ := execBase_exists_next b s
    exact ⟨t, ht, step_base (hd.symm.trans hb) ht⟩
  · obtain ⟨hvr, hvscr, hcr, hstr, hregs, hmem⟩ := s.takeException_changesControlOnly vectorProgram causeIllegal
    exact ⟨s.takeIllegal, step_illegal (hd.symm.trans hi), rfl, rfl, rfl, enteredMSR_of_msr_eq rfl, hvr, hvscr, hcr, hstr,
      hregs, hmem⟩

/-- Settles O6: memory lists nothing, pc is the vector at offset 0x100, and an empty slot holds no stream. -/
theorem resetMeetsTheInvariant : Obligations.ResetMeetsTheInvariant := by
  unfold Obligations.ResetMeetsTheInvariant
  exact ⟨⟨State.reset_mem_wf, rfl, streamsLegal_replicate_none⟩, rfl, State.reset_get_streams⟩

end Sys2Proof.Machine
end
